-- ==== Sys2Proof/Word.lean ====
section
/-! DEFINITION. The word and the byte of the block (00_scope.md R7: `W` = 64; 20_memory.md R50: a byte is 8 bits). -/

namespace Sys2Proof

/-- A 64-bit word: every register, operand, result, table entry and CRC state (R7, R10). -/
abbrev Word := BitVec 64

/-- One byte of the data buffer (R50). -/
abbrev Byte := BitVec 8

end Sys2Proof
end

