-- ==== Sys2Proof/Syntax.lean ====
section
/-! DEFINITION. The seven commands (30_encoding.md R72), the host's transactions (R83) and the
pseudo-instructions (R84). A command word carries no operand (R71), so no command has an argument here:
its operands are in the operand registers of the state (10_state.md R23). -/

namespace Sys2Proof

/-- The commands, one constructor per row of spec/opcode_table.json. -/
inductive Instr where
  | compute
  | combine
  | mulxn
  | gf2mul
  | tblSingle
  | tblWide
  | tblBuild
  deriving DecidableEq, Repr

/-- One act of the host (R83). A register is named by its index (10_state.md R21): 0 `CMD`, 1 `STATUS`,
2 `RESULT`, 3 + m `ARGm`; an index of 10 or more is reserved (R22). -/
inductive HostTxn where
  /-- `wr <reg>, <value>` -/
  | wr (reg : Nat) (value : Word)
  /-- `rd <reg>` -/
  | rd (reg : Nat)
  /-- `bind <bytes>` (10_state.md R34) -/
  | bind (bytes : List Byte)
  /-- `reset` (70_reset_and_hazards.md R180). `tableBuildOk` is not the host's: it is what the environment
  draws for `table_build_ok` at this reset. -/
  | reset (tableBuildOk : Bool)
  deriving DecidableEq, Repr

/-- The pseudo-instructions of R84, operands in the order of the spec's table. -/
inductive Pseudo where
  | compute (init len : Word)
  | combine (iAB iA fA lA iB fB lB : Word)
  | mulxn (v n : Word)
  | gf2mul (a b : Word)
  | tblsingle (b : Word)
  | tblwide (k b : Word)
  | tblbuild
  | result
  | status
  deriving DecidableEq, Repr

end Sys2Proof
end

