-- ==== Sys2Proof/WellFormed.lean ====
section
/-! DEFINITION. What well-formed syntax is. A command has no field that could be out of range (R71); a
transaction's listing form has one decimal digit for a register index (R83), so an index of 10 or more
makes it ill-formed. -/

namespace Sys2Proof

/-- Every command is well-formed: the command word carries no operand, no register number and no
immediate (R71). -/
def Instr.wf : Instr → Bool
  | .compute | .combine | .mulxn | .gf2mul | .tblSingle | .tblWide | .tblBuild => true

/-- A transaction names a register of the block, 0 to 9 (R21, R83). -/
def HostTxn.wf : HostTxn → Bool
  | .wr reg _ => decide (reg < 10)
  | .rd reg => decide (reg < 10)
  | .bind _ => true
  | .reset _ => true

end Sys2Proof
end

