-- ==== Sys2Proof/Decode.lean ====
section
/-! DEFINITION. The decoder of the command word (30_encoding.md R70 to R74), the encoder, the opcode map
as a table of rows (R72, R85), and the host notation (R83, R84). -/

namespace Sys2Proof

/-- Why a command word is illegal (R73). -/
inductive DecodeError where
  /-- a bit of the field `zero`, bits 63:8, is set -/
  | zeroFieldSet
  /-- the opcode selects no command -/
  | unusedOpcode (opcode : Byte)
  deriving DecidableEq, Repr

/-- Bits 7:0 of a command word (R71). -/
def opcodeField (w : Word) : Byte := w.extractLsb' 0 8

/-- Bits 63:8 of a command word (R71). -/
def zeroField (w : Word) : BitVec 56 := w.extractLsb' 8 56

/-- The opcode map as the case of R74. -/
def decodeOpcode (op : Byte) : Except DecodeError Instr :=
  if op = 0x01 then .ok .compute
  else if op = 0x02 then .ok .combine
  else if op = 0x03 then .ok .mulxn
  else if op = 0x04 then .ok .gf2mul
  else if op = 0x05 then .ok .tblSingle
  else if op = 0x06 then .ok .tblWide
  else if op = 0x07 then .ok .tblBuild
  else .error (.unusedOpcode op)

/-- The decoding procedure of R74, total on every 64-bit word. -/
def decode (w : Word) : Except DecodeError Instr :=
  if zeroField w ≠ 0 then .error .zeroFieldSet else decodeOpcode (opcodeField w)

/-- The command word of a command (R72). -/
def encode : Instr → Word
  | .compute => 0x0000000000000001
  | .combine => 0x0000000000000002
  | .mulxn => 0x0000000000000003
  | .gf2mul => 0x0000000000000004
  | .tblSingle => 0x0000000000000005
  | .tblWide => 0x0000000000000006
  | .tblBuild => 0x0000000000000007

/-- One row of the opcode map (R72, R85). -/
structure OpcodeRow where
  mask : Word
  pattern : Word
  instr : Instr
  deriving DecidableEq, Repr

/-- The opcode map of R72, `match` and `mask` over the whole word. -/
def opcodeTable : List OpcodeRow :=
  [ ⟨0xFFFFFFFFFFFFFFFF, 0x0000000000000001, .compute⟩,
    ⟨0xFFFFFFFFFFFFFFFF, 0x0000000000000002, .combine⟩,
    ⟨0xFFFFFFFFFFFFFFFF, 0x0000000000000003, .mulxn⟩,
    ⟨0xFFFFFFFFFFFFFFFF, 0x0000000000000004, .gf2mul⟩,
    ⟨0xFFFFFFFFFFFFFFFF, 0x0000000000000005, .tblSingle⟩,
    ⟨0xFFFFFFFFFFFFFFFF, 0x0000000000000006, .tblWide⟩,
    ⟨0xFFFFFFFFFFFFFFFF, 0x0000000000000007, .tblBuild⟩ ]

/-- Does the word select the row: `w & mask == match` (R72). -/
def OpcodeRow.selects (r : OpcodeRow) (w : Word) : Bool := w &&& r.mask == r.pattern

/-- The decoder written from the table alone (R85): the first row the word selects. -/
def decodeByTable (w : Word) : Option Instr :=
  (opcodeTable.find? fun r => r.selects w).map OpcodeRow.instr

/-- The instruction this decoder reads from a word of `nbits` bits whose value is `w`; a value that does
not fit a command word is refused, not truncated. -/
def decodeTableWord (nbits w : Nat) : Option Instr :=
  let v := w % 2 ^ nbits
  if v < 2 ^ 64 then (decode (BitVec.ofNat 64 v)).toOption else none

/-- The expansion of a pseudo-instruction into transactions (R84); the write to `CMD` comes last (R187). -/
def Pseudo.expand : Pseudo → List HostTxn
  | .compute init len => [.wr 3 init, .wr 4 len, .wr 0 0x01]
  | .combine iAB iA fA lA iB fB lB =>
      [.wr 3 iAB, .wr 4 iA, .wr 5 fA, .wr 6 lA, .wr 7 iB, .wr 8 fB, .wr 9 lB, .wr 0 0x02]
  | .mulxn v n => [.wr 3 v, .wr 4 n, .wr 0 0x03]
  | .gf2mul a b => [.wr 3 a, .wr 4 b, .wr 0 0x04]
  | .tblsingle b => [.wr 3 b, .wr 0 0x05]
  | .tblwide k b => [.wr 3 k, .wr 4 b, .wr 0 0x06]
  | .tblbuild => [.wr 0 0x07]
  | .result => [.rd 2]
  | .status => [.rd 1]

/-- One hexadecimal digit, capital as in the spec's listings. -/
def hexDigit (n : Nat) : Char := if n < 10 then Char.ofNat (48 + n) else Char.ofNat (55 + n)

/-- The last `k` hexadecimal digits of a number, most significant first. -/
def hexDigits : Nat → Nat → List Char
  | 0, _ => []
  | k + 1, n => hexDigits k (n / 16) ++ [hexDigit (n % 16)]

/-- The bytes of a `B` listing, each after a blank. -/
def listedBytes : List Byte → List Char
  | [] => []
  | b :: bs => ' ' :: hexDigits 2 b.toNat ++ listedBytes bs

/-- The listing encoding of a transaction as characters (R83): `W i vvvvvvvvvvvvvvvv`, `R i`,
`B n bytes`, `Z`. An ill-formed transaction has none: the form has one digit for the index. -/
def HostTxn.listing (t : HostTxn) : Option (List Char) :=
  if t.wf then
    match t with
    | .wr reg value => some ('W' :: ' ' :: hexDigit reg :: ' ' :: hexDigits 16 value.toNat)
    | .rd reg => some ['R', ' ', hexDigit reg]
    | .bind bytes => some ('B' :: ' ' :: Nat.toDigits 10 bytes.length ++ listedBytes bytes)
    | .reset _ => some ['Z']
  else none

end Sys2Proof
end

