-- ==== Sys2Proof/Config.lean ====
section
/-! DEFINITION. What an implementation fixes (00_scope.md R8) and the one source of free values. -/

namespace Sys2Proof

/-- `MULXN_IMPL` (R8): which of the two forms of `mulXN` an implementation uses. No result depends on it
(42_combiner.md R143). -/
inductive MulxnImpl where
  | iterative
  | ladder
  deriving DecidableEq, Repr

/-- The open parameters of R8. They are fixed for one block; no transaction changes them. -/
structure Params where
  /-- `POLY`: the generator in reflected bit order, the x^64 term implicit. -/
  poly : Word
  /-- `TABLE_BUILD_AT_RESET`: eager construction when true, lazy when false (R182). -/
  tableBuildAtReset : Bool
  /-- `MULXN_IMPL`. -/
  mulxnImpl : MulxnImpl
  deriving DecidableEq, Repr

/-- The parameters `State.reset` starts with. PRESUMED `poly`: the spec's candidate, from general
knowledge and not in its source (R8, D13). DESIGN CHOICE lazy and ladder: the spec leaves both open (R8,
R182). No statement rests on any of the three: see notes/assumptions/5.md. -/
def Params.candidate : Params :=
  { poly := 0x9A6C9329AC4BC9B5, tableBuildAtReset := false, mulxnImpl := .ladder }

/-- FREE VALUE: what `RESULT` holds after the launch numbered `n` leaves it unspecified (10_state.md R26,
60_exceptions.md R165). It has no body, so nothing can be proved of it: see notes/assumptions/3.md. -/
opaque Config.freeResult : Nat → Word

end Sys2Proof
end

