-- ==== Sys2Proof/Machine/State.lean ====
section
/-! DEFINITION. The state of one block (10_state.md R20), the reasons a step can stop, and the state after
reset (R41). -/

namespace Sys2Proof.Machine

/-- The three causes of `InvalidArgument` (60_exceptions.md R161). -/
inductive InvalidArg where
  | negativeLength
  | bufferSize
  | malformed
  deriving DecidableEq, Repr

/-- What the field `CAUSE` records (R161). There is no other value: the block never writes one. -/
inductive Cause where
  | none
  | invalidArgument (reason : InvalidArg)
  | tableBuildFailure
  deriving DecidableEq, Repr

/-- The table set (10_state.md R31, R32): `single[b]` and `wide[k][b]`. -/
structure TableSet where
  single : Vector Word 256
  wide : Vector (Vector Word 256) 8
  deriving DecidableEq, Repr

/-- The data buffer `DATA` as (index, byte) cells (10_state.md R34, 20_memory.md R50). An index that is
not listed has no value. -/
abbrev Memory := List Host.Cell

/-- The block, the host's list of coming transactions and what the host has read. The fields from
`params` on are the model's own: R16 calls them parameters of the step and of the run, and the form of
`step` leaves the state as the one place for them. -/
structure State where
  /-- `CMD`, x[0] (R24). -/
  cmd : Word
  /-- Has a launch stored a word in `CMD` since reset (U1)? -/
  cmdWritten : Bool
  /-- `STATUS[0]` (R25). -/
  tblReady : Bool
  /-- `STATUS[1]` (R25). -/
  valid : Bool
  /-- `STATUS[2]` (R25). -/
  err : Bool
  /-- `STATUS[3]` (R25). -/
  fatal : Bool
  /-- `STATUS[15:8]` (R25, R161). -/
  cause : Cause
  /-- `RESULT`, x[2] (R26). -/
  result : Word
  /-- `ARG0` to `ARG6`, x[3] to x[9] (R21). -/
  args : Vector Word 7
  /-- Which `ARGm` the host has written since reset (R42). -/
  argWritten : Vector Bool 7
  /-- The tables `single` and `wide` (R31 to R33). -/
  tables : TableSet
  /-- `DATA`; `DATA_AVAIL` is its length (R34). -/
  data : Memory
  /-- `POLY`, `TABLE_BUILD_AT_RESET`, `MULXN_IMPL` (R8). -/
  params : Params
  /-- The environment's draw of `table_build_ok` for this life of the block (R182). -/
  tableBuildOk : Bool
  /-- The host's coming transactions, next first (R27, R62). -/
  pending : List HostTxn
  /-- The values the host's reads returned, oldest first (R196). -/
  reads : List Word
  /-- How many free values have been drawn (notes/assumptions/3.md). -/
  freeCount : Nat
  deriving DecidableEq, Repr

/-- Why the machine stops with a fault. -/
inductive Fault where
  /-- Raised by COMPUTE when `DATA` lists no byte at an index below `DATA_AVAIL`. No state a run reaches
  has such a gap (R51). Safe: the model stops where it has no byte to read. -/
  | dataOutOfRange
  deriving DecidableEq, Repr

/-- Why a step is refused. -/
inductive Refusal where
  /-- Raised by an arm of `exec` whose command has no meaning yet; no arm is left so. Safe. -/
  | notModelled (mnemonic : String)
  /-- Raised by a host read of a reserved register index, 10 or more: no register is there and the value
  is unspecified (10_state.md R22, U6). Safe. -/
  | reservedRegisterRead (reg : Nat)
  deriving DecidableEq, Repr

/-- The content the model gives both tables before construction. DESIGN CHOICE (notes/assumptions/4.md):
the spec leaves it unspecified and no rule reads it (R33, U4). -/
def TableSet.unbuilt : TableSet :=
  { single := Vector.replicate 256 0, wide := Vector.replicate 8 (Vector.replicate 256 0) }

/-- The block right after a reset (R41) with the parameters of `Params.candidate` and nothing for the host
to do yet. DESIGN CHOICE (notes/assumptions/1.md): `CMD`, `RESULT` and every `ARGm` are 0 where the spec
leaves them unspecified. -/
def State.reset : State :=
  { cmd := 0
    cmdWritten := false
    tblReady := false
    valid := false
    err := false
    fatal := false
    cause := .none
    result := 0
    args := Vector.replicate 7 0
    argWritten := Vector.replicate 7 false
    tables := TableSet.unbuilt
    data := []
    params := Params.candidate
    tableBuildOk := true
    pending := []
    reads := []
    freeCount := 0 }

end Sys2Proof.Machine
end

