-- ==== Sys2Proof/Machine/Flags.lean ====
section
/-! DEFINITION. The flags of `STATUS` (10_state.md R25, R28), the `CAUSE` codes (60_exceptions.md R161) and
every way a flag changes. -/

namespace Sys2Proof.Machine

/-- The 8-bit code of a cause (R161). -/
def causeCode : Cause → Byte
  | .none => 0x00
  | .invalidArgument .negativeLength => 0x01
  | .invalidArgument .bufferSize => 0x02
  | .invalidArgument .malformed => 0x03
  | .tableBuildFailure => 0x10

/-- The word a read of `STATUS` returns (R25): `CAUSE` in 15:8, `FATAL`, `ERR`, `VALID`, `TBL_READY` in
bits 3 to 0, every reserved bit 0 (U9). -/
def statusWord (s : State) : Word :=
  0#48 ++ causeCode s.cause ++ 0#4 ++ BitVec.ofBool s.fatal ++ BitVec.ofBool s.err ++
    BitVec.ofBool s.valid ++ BitVec.ofBool s.tblReady

/-- `VALID <- 0 ; ERR <- 0 ; CAUSE <- 0x00`, step 2 of R169. With `VALID` = 0 the content of `RESULT` is
unspecified (R26), so it becomes the next free value. -/
def clearFlags (s : State) : State :=
  { s with
    valid := false
    err := false
    cause := .none
    result := Config.freeResult s.freeCount
    freeCount := s.freeCount + 1 }

/-- The flags of `raise InvalidArgument(c)` (R165). -/
def flagReject (c : InvalidArg) (s : State) : State :=
  { s with err := true, cause := .invalidArgument c, valid := false }

/-- The flags of `raise Fatal` (R167). -/
def flagFatal (s : State) : State :=
  { s with fatal := true, cause := .tableBuildFailure, valid := false, err := false }

/-- `RESULT <- value ; VALID <- 1`, the end of a successful command with a result (R26, R169 step 6). -/
def flagResult (v : Word) (s : State) : State :=
  { s with result := v, valid := true }

end Sys2Proof.Machine
end

