-- ==== Sys2Proof/Machine/Operands.lean ====
section
/-! DEFINITION. The operand forms of 30_encoding.md R75, the two forms of a CRC value (R77), and which
operand registers each command reads (10_state.md R23). -/

namespace Sys2Proof.Machine

/-- `ALL_ONES_64` (R7). -/
def allOnes64 : Word := 0xFFFFFFFFFFFFFFFF

/-- External to internal form of a CRC and back: the map is its own inverse (R77). -/
def complement (v : Word) : Word := v ^^^ allOnes64

/-- `sval`, the signed two's-complement reading of a word (R10). -/
def sval (v : Word) : Int := v.toInt

/-- A length field is negative when bit 63 is set (R35). -/
def lengthNegative (v : Word) : Bool := v.getLsbD 63

/-- The value of a valid length field, bits 62:0 (R110, R35). -/
def lengthValue (v : Word) : Nat := (v.extractLsb' 0 63).toNat

/-- `LEN_MAX`, the largest valid length (R9). -/
def lenMax : Nat := 2 ^ 63 - 1

/-- A byte value operand is legal from 0 to 255; a bit above makes it illegal, it is not masked (R75). -/
def byteValueLegal (v : Word) : Bool := decide (v.toNat ≤ 255)

/-- A tap index operand is legal from 0 to 7 (R75). -/
def tapIndexLegal (v : Word) : Bool := decide (v.toNat ≤ 7)

/-- The byte of a byte value operand, bits 7:0 (R104, R105). -/
def byteOf (v : Word) : Byte := v.extractLsb' 0 8

/-- The tap of a tap index operand, bits 2:0 (R105). -/
def tapOf (v : Word) : BitVec 3 := v.extractLsb' 0 3

/-- The operand registers a command reads, as the `m` of `ARGm` (R23). -/
def operandRegs : Instr → List (Fin 7)
  | .compute => [0, 1]
  | .combine => [0, 1, 2, 3, 4, 5, 6]
  | .mulxn => [0, 1]
  | .gf2mul => [0, 1]
  | .tblSingle => [0]
  | .tblWide => [0, 1]
  | .tblBuild => []

end Sys2Proof.Machine
end

