-- ==== Sys2Proof/Machine/Tables.lean ====
section
/-! DEFINITION. The CRC table set (40_table_set.md): the recurrence, the byte step and the values of both
tables. Every function takes the polynomial or the table it reads as an argument, so each rule is written
for any `POLY` (D13). -/

namespace Sys2Proof.Machine

/-- `mulx` (R91, R131): one right shift, and the polynomial added when a 1 is shifted out. -/
def mulx (poly v : Word) : Word := (v >>> 1) ^^^ (if v.getLsbD 0 then poly else 0)

/-- `mulx` applied `k` times. -/
def mulxIter (poly : Word) : Nat → Word → Word
  | 0, v => v
  | k + 1, v => mulxIter poly k (mulx poly v)

/-- `mulx8` (R91, R132). -/
def mulx8 (poly v : Word) : Word := mulxIter poly 8 v

/-- The entries `f k, f (k+1), …`, `n` of them. -/
def entriesFrom {α : Type} (f : Nat → α) : Nat → Nat → List α
  | 0, _ => []
  | n + 1, k => f k :: entriesFrom f n (k + 1)

theorem entriesFrom_length {α : Type} (f : Nat → α) (n k : Nat) : (entriesFrom f n k).length = n := by
  induction n generalizing k with
  | zero => rfl
  | succ n ih => simp [entriesFrom, ih]

/-- A table of `n` entries from the value at each index. -/
def tabulate {α : Type} (n : Nat) (f : Nat → α) : Vector α n :=
  ⟨⟨entriesFrom f n 0⟩, entriesFrom_length f n 0⟩

/-- The entry of `single` for a byte value (R91). -/
def singleEntry (poly : Word) (b : Nat) : Word := mulx8 poly (BitVec.ofNat 64 b)

/-- The table `single` (R91, R92). -/
def buildSingle (poly : Word) : Vector Word 256 := tabulate 256 (singleEntry poly)

/-- The entry of a 256-entry table at a byte; a byte is always in range (R58). -/
def lookup (t : Vector Word 256) (b : Byte) : Word := t[b.toFin]

/-- `byte_step(c, b)` (R97): the index is the low byte of `c XOR b`. -/
def byteStep (single : Vector Word 256) (c : Word) (b : Byte) : Word :=
  (c >>> 8) ^^^ lookup single ((c ^^^ b.setWidth 64).setWidth 8)

/-- `zero_step(c)` (R98). -/
def zeroStep (single : Vector Word 256) (c : Word) : Word := byteStep single c 0

/-- `adv(c, m)` (R99): `m` zero steps. -/
def adv (single : Vector Word 256) (c : Word) : Nat → Word
  | 0 => c
  | m + 1 => zeroStep single (adv single c m)

/-- The entry of `wide` for a tap and a byte value (R94). -/
def wideEntry (single : Vector Word 256) (k b : Nat) : Word :=
  adv single (lookup single (BitVec.ofNat 8 b)) (24 + k)

/-- The table `wide` (R94). -/
def buildWide (single : Vector Word 256) : Vector (Vector Word 256) 8 :=
  tabulate 8 fun k => tabulate 256 (wideEntry single k)

/-- Both tables; they are a function of `POLY` alone (R106). -/
def buildTables (poly : Word) : TableSet :=
  { single := buildSingle poly, wide := buildWide (buildSingle poly) }

/-- `wide[k][b]` (R94, R105). -/
def wideLookup (wide : Vector (Vector Word 256) 8) (k : BitVec 3) (b : Byte) : Word :=
  lookup wide[k.toFin] b

/-- The flat index of `wide[k][b]` (R78). -/
def wideFlatIndex (k : BitVec 3) (b : Byte) : Nat := 256 * k.toNat + b.toNat

/-- `wide` as one table of 2048 entries indexed by tap and byte value (R78). -/
def wideFlat (wide : Vector (Vector Word 256) 8) : List Word :=
  (wide.toList.map Vector.toList).flatten

end Sys2Proof.Machine
end

