-- ==== Sys2Proof/Machine/Ops.lean ====
section
/-! DEFINITION. The named operations over the buffer and the registers, the two exceptions, table
construction, the launch sequence every command runs (60_exceptions.md R169) and reset
(70_reset_and_hazards.md R180). -/

namespace Sys2Proof.Machine

/-! ### The data buffer (10_state.md R34, 20_memory.md R50 to R53) -/

/-- The cells of a byte sequence from index `k` on. -/
def cellsFrom : Nat → List Byte → Memory
  | _, [] => []
  | k, b :: bs => (k, b) :: cellsFrom (k + 1) bs

/-- Is the list in the canonical form from index `k` on: one cell an index, in order, without a gap? -/
def Memory.wfFrom : Nat → Memory → Bool
  | _, [] => true
  | k, (a, _) :: m => a == k && Memory.wfFrom (k + 1) m

/-- The canonical form of `DATA`: indices 0, 1, 2, … (R50, R51). -/
def Memory.wf (m : Memory) : Bool := Memory.wfFrom 0 m

/-- `DATA_AVAIL` (R34). -/
def Memory.avail (m : Memory) : Nat := m.length

/-- The byte at an index, if one is listed (R52). -/
def Memory.read : Memory → Nat → Option Byte
  | [], _ => none
  | (k, b) :: m, a => if k = a then some b else Memory.read m a

/-- The `n` bytes from index `a` on, if all are listed (R51). -/
def Memory.readBytes (m : Memory) : Nat → Nat → Option (List Byte)
  | _, 0 => some []
  | a, n + 1 =>
    match Memory.read m a, Memory.readBytes m (a + 1) n with
    | some b, some bs => some (b :: bs)
    | _, _ => none

/-- `bind s`: `DATA` becomes `s` and `DATA_AVAIL` its length (R34). -/
def bindData (bytes : List Byte) (s : State) : State := { s with data := cellsFrom 0 bytes }

/-! ### The interface registers (10_state.md R21, R22) -/

/-- The 64 bits of register `i`; there is none at an index of 10 or more. -/
def readReg (s : State) (i : Nat) : Option Word :=
  match i with
  | 0 => some s.cmd
  | 1 => some (statusWord s)
  | 2 => some s.result
  | m + 3 => s.args[m]?

/-- A host write of `ARGm`: all 64 bits (R22); the register is written from now on (R42). An `m` above 6 is
a reserved index and the write is ignored (R22). -/
def writeArg (m : Nat) (v : Word) (s : State) : State :=
  { s with args := s.args.setIfInBounds m v, argWritten := s.argWritten.setIfInBounds m true }

/-- The host's read of a register returned `v` (R196). -/
def noteRead (v : Word) (s : State) : State := { s with reads := s.reads ++ [v] }

/-! ### The two exceptions (60_exceptions.md R165, R167) and table construction (40_table_set.md R101, R102) -/

/-- `raise InvalidArgument(c)` (R165): nothing but the flags changes, and control goes nowhere (R166). The
way back is the next launch, which clears the flags (R171). -/
def raiseInvalid (c : InvalidArg) (s : State) : State := flagReject c s

/-- `raise Fatal` (R167). Only `resetBlock` leads back (R168). -/
def raiseFatal (s : State) : State := flagFatal s

/-- Table construction, one atomic step (R101). -/
def construct (s : State) : State :=
  { s with tables := buildTables s.params.poly, tblReady := true }

/-- `ensure_tables()` (R102). When it raises, the state it leaves has `FATAL` = 1. -/
def ensureTables (s : State) : State :=
  if s.tblReady then s
  else if s.tableBuildOk then construct s
  else raiseFatal s

/-! ### The launch sequence (60_exceptions.md R169) -/

/-- Steps 1 and 2: `CMD <- w`, then the flags are cleared. -/
def openLaunch (w : Word) (s : State) : State :=
  clearFlags { s with cmd := w, cmdWritten := true }

/-- Steps 0 to 6 for a word `w` that decodes, with the command's operand check (step 4) and what it does
once the tables stand (step 6). A dead block ignores the write whole (step 0, R168). -/
def launch (w : Word) (check : State → Option InvalidArg)
    (work : State → Host.Outcome State Fault Refusal) (s : State) : Host.Outcome State Fault Refusal :=
  if s.fatal then .next s
  else
    let s1 := openLaunch w s
    match check s1 with
    | some c => .next (raiseInvalid c s1)
    | none =>
      let s2 := ensureTables s1
      if s2.fatal then .next s2 else work s2

/-- The launch of a word that selects no command (R73, R169 step 3). -/
def launchIllegal (w : Word) (s : State) : State :=
  if s.fatal then s else raiseInvalid .malformed (openLaunch w s)

/-- The end of a successful command with a result (R169 step 6). -/
def finish (v : Word) (s : State) : Host.Outcome State Fault Refusal := .next (flagResult v s)

/-! ### Reset (70_reset_and_hazards.md R180, R182) -/

/-- Every piece of state back to its value after reset, before any eager construction. DESIGN CHOICE
(notes/assumptions/1.md, 4.md): the same named values as `State.reset` where the spec says unspecified. -/
def clearBlock (tableBuildOk : Bool) (s : State) : State :=
  { s with
    cmd := 0
    cmdWritten := false
    tblReady := false
    valid := false
    err := false
    fatal := false
    cause := .none
    result := 0
    args := Vector.replicate 7 0
    argWritten := Vector.replicate 7 false
    tables := TableSet.unbuilt
    data := []
    tableBuildOk := tableBuildOk }

/-- `reset` with the environment's new draw of `table_build_ok` (R180). The eager policy constructs the
tables here, or fails to and raises `Fatal` (R182). -/
def resetBlock (tableBuildOk : Bool) (s : State) : State :=
  let s' := clearBlock tableBuildOk s
  if s'.params.tableBuildAtReset then ensureTables s' else s'

end Sys2Proof.Machine
end

