-- ==== Sys2Proof/Machine/Combiner.lean ====
section
/-! DEFINITION. The CRC combiner (42_combiner.md): the field, the multiplier, both forms of `mulXN`, the six
steps of COMBINE, and the commands GF2MUL, MULXN and COMBINE. -/

namespace Sys2Proof.Machine

/-! ### The field (R130 to R137) -/

/-- The coefficient of x^i in a field element: bit `63 - i` (R130). -/
def coeff (v : Word) (i : Nat) : Bool := v.getLsbD (63 - i)

/-- The field element 1 (R130). -/
def fieldOne : Word := 0x8000000000000000

/-- The loop of R133 with `k` exponents of `b` left to scan, from x^(64-k) on; the bit of `b` looked at is
bit `k - 1`. -/
def gf2mulLoop (poly b : Word) : Nat → Word → Word → Word
  | 0, _, r => r
  | k + 1, a, r => gf2mulLoop poly b k (mulx poly a) (if b.getLsbD k then r ^^^ a else r)

/-- `gf2mul(a, b)` (R133). -/
def gf2mul (poly a b : Word) : Word := gf2mulLoop poly b 64 a 0

/-- `xpow(e)` (R135). -/
def xpow (poly : Word) : Nat → Word
  | 0 => fieldOne
  | e + 1 => mulx poly (xpow poly e)

/-- The ladder constant `XP[k]` (R137). -/
def ladderConst (poly : Word) : Nat → Word
  | 0 => 0x0080000000000000
  | k + 1 => gf2mul poly (ladderConst poly k) (ladderConst poly k)

/-! ### mulXN (R141, R143) -/

/-- `mulXN(v, n)` by its normative definition, `n` zero steps (R141). -/
def mulXNIter (single : Vector Word 256) (v : Word) (n : Nat) : Word := adv single v n

/-- The ladder's loop (R143) with `steps` bits of `n` left, from bit `k` on; `x` is `XP[k]`. -/
def ladderLoop (poly : Word) (n : Nat) : Nat → Nat → Word → Word → Word
  | 0, _, _, r => r
  | steps + 1, k, x, r =>
    ladderLoop poly n steps (k + 1) (gf2mul poly x x) (if n.testBit k then gf2mul poly r x else r)

/-- `mulXN_ladder(v, n)` for `n` below 2^63 (R143). The exponent `8 * n` is never formed (R144). -/
def mulXNLadder (poly v : Word) (n : Nat) : Word := ladderLoop poly n 63 0 (ladderConst poly 0) v

/-- `mulXN` in the form the block's `MULXN_IMPL` selects (R8). -/
def mulXN (p : Params) (t : TableSet) (v : Word) (n : Nat) : Word :=
  match p.mulxnImpl with
  | .iterative => mulXNIter t.single v n
  | .ladder => mulXNLadder p.poly v n

/-! ### COMBINE's function (R146) -/

/-- The six steps of R146 over a given `mulXN`. -/
def combineWith (mulXN : Word → Nat → Word) (initialAB initialA finalA : Word) (lengthA : Nat)
    (initialB finalB : Word) (lengthB : Nat) : Word :=
  let r1 := finalA ^^^ allOnes64
  let r2 := if initialA ≠ initialAB then r1 ^^^ mulXN (initialA ^^^ initialAB) lengthA else r1
  let r3 := r2 ^^^ (initialB ^^^ allOnes64)
  let r4 := mulXN r3 lengthB
  r4 ^^^ finalB

/-! ### The commands -/

/-- What GF2MUL does once the tables stand: `RESULT <- gf2mul(ARG0, ARG1)` (R134). -/
def workGf2mul (s : State) : Host.Outcome State Fault Refusal :=
  finish (gf2mul s.params.poly s.args[0] s.args[1]) s

/-- GF2MUL (R134): no operand value is illegal. -/
def execGf2mul (s : State) : Host.Outcome State Fault Refusal :=
  launch (encode .gf2mul) (fun _ => none) workGf2mul s

/-- The operand check of MULXN (R140). -/
def checkMulxn (s : State) : Option InvalidArg :=
  if lengthNegative s.args[1] then some .negativeLength else none

/-- What MULXN does once the tables stand: `RESULT <- mulXN(ARG0, ARG1[62:0])` (R140). -/
def workMulxn (s : State) : Host.Outcome State Fault Refusal :=
  finish (mulXN s.params s.tables s.args[0] (lengthValue s.args[1])) s

/-- MULXN (R140). -/
def execMulxn (s : State) : Host.Outcome State Fault Refusal :=
  launch (encode .mulxn) checkMulxn workMulxn s

/-- The operand check of COMBINE: one check covers both lengths (R145, R170). -/
def checkCombine (s : State) : Option InvalidArg :=
  if lengthNegative s.args[3] || lengthNegative s.args[6] then some .negativeLength else none

/-- What COMBINE does once the tables stand: the six steps on its seven operands (R145, R146). -/
def workCombine (s : State) : Host.Outcome State Fault Refusal :=
  finish
    (combineWith (mulXN s.params s.tables) s.args[0] s.args[1] s.args[2] (lengthValue s.args[3])
      s.args[4] s.args[5] (lengthValue s.args[6])) s

/-- COMBINE (R145). -/
def execCombine (s : State) : Host.Outcome State Fault Refusal :=
  launch (encode .combine) checkCombine workCombine s

end Sys2Proof.Machine
end

