-- ==== Sys2Proof/Machine/Engine.lean ====
section
/-! DEFINITION. The CRC engine (41_engine_compute.md): the bytewise function, which is architectural
(R112, D25), the prescribed fast-path structure (R113 to R122), and the command COMPUTE (R110). -/

namespace Sys2Proof.Machine

/-! ### The architectural result -/

/-- The accumulator after the bytes of `data` have been stepped through from `c` (R112, R121). -/
def stepBytes (single : Vector Word 256) (c : Word) : List Byte → Word
  | [] => c
  | b :: bs => stepBytes single (byteStep single c b) bs

/-- `crc64(data, init)` (R112). -/
def crc64 (single : Vector Word 256) (data : List Byte) (init : Word) : Word :=
  complement (stepBytes single (complement init) data)

/-! ### The prescribed structure -/

/-- `BLOCK_BYTES` (R7). -/
def blockBytes : Nat := 32

/-- `FAST_GATE_BYTES` (R7). -/
def fastGateBytes : Nat := 64

/-- `MemRead(addr, 1)` on a byte sequence (R52); every use is in range (R51). -/
def byteAt (data : List Byte) (addr : Nat) : Byte := data.getD addr 0

/-- `MemRead(addr, 8)`: the byte at the lowest index is the least significant (R53). -/
def wordAt (data : List Byte) (addr : Nat) : Word :=
  (byteAt data addr).setWidth 64
    ||| ((byteAt data (addr + 1)).setWidth 64 <<< 8)
    ||| ((byteAt data (addr + 2)).setWidth 64 <<< 16)
    ||| ((byteAt data (addr + 3)).setWidth 64 <<< 24)
    ||| ((byteAt data (addr + 4)).setWidth 64 <<< 32)
    ||| ((byteAt data (addr + 5)).setWidth 64 <<< 40)
    ||| ((byteAt data (addr + 6)).setWidth 64 <<< 48)
    ||| ((byteAt data (addr + 7)).setWidth 64 <<< 56)

/-- Byte position `j` of a lane word (R53). -/
def bytePos (w : Word) (j : Nat) : Byte := w.extractLsb' (8 * j) 8

/-- The eight lookups of one lane: byte position `j` uses tap `7 - j` (R95, R118). -/
def laneLookup (wide : Vector (Vector Word 256) 8) (w : Word) : Word :=
  wideLookup wide 7 (bytePos w 0) ^^^ wideLookup wide 6 (bytePos w 1)
    ^^^ wideLookup wide 5 (bytePos w 2) ^^^ wideLookup wide 4 (bytePos w 3)
    ^^^ wideLookup wide 3 (bytePos w 4) ^^^ wideLookup wide 2 (bytePos w 5)
    ^^^ wideLookup wide 1 (bytePos w 6) ^^^ wideLookup wide 0 (bytePos w 7)

/-- The four lane accumulators (R37). -/
structure Lanes where
  acc0 : Word
  acc1 : Word
  acc2 : Word
  acc3 : Word
  deriving DecidableEq, Repr

/-- Lane start (R116). -/
def laneStart (crc : Word) : Lanes := { acc0 := crc, acc1 := 0, acc2 := 0, acc3 := 0 }

/-- One wide-loop iteration at block offset `p` (R118). -/
def wideStep (wide : Vector (Vector Word 256) 8) (data : List Byte) (p : Nat) (l : Lanes) : Lanes :=
  { acc0 := laneLookup wide (wordAt data p ^^^ l.acc0)
    acc1 := laneLookup wide (wordAt data (p + 8) ^^^ l.acc1)
    acc2 := laneLookup wide (wordAt data (p + 16) ^^^ l.acc2)
    acc3 := laneLookup wide (wordAt data (p + 24) ^^^ l.acc3) }

/-- The wide loop: `k` iterations from block offset `p` (R117). -/
def wideLoop (wide : Vector (Vector Word 256) 8) (data : List Byte) : Nat → Nat → Lanes → Lanes
  | 0, _, l => l
  | k + 1, p, l => wideLoop wide data k (p + blockBytes) (wideStep wide data p l)

/-- One lane merge of the fold: XOR the lane's word and accumulator in, then eight zero steps (R119). -/
def foldLane (single : Vector Word 256) (crc word acc : Word) : Word :=
  adv single (crc ^^^ word ^^^ acc) 8

/-- The fold at block offset `p`, lanes in the order 0 to 3 (R119). -/
def foldLanes (single : Vector Word 256) (data : List Byte) (p : Nat) (l : Lanes) : Word :=
  let c0 := foldLane single 0 (wordAt data p) l.acc0
  let c1 := foldLane single c0 (wordAt data (p + 8)) l.acc1
  let c2 := foldLane single c1 (wordAt data (p + 16)) l.acc2
  foldLane single c2 (wordAt data (p + 24)) l.acc3

/-- `stop`, the length of the 32-byte-aligned region (R115). -/
def stopOf (n : Nat) : Nat := n - n % blockBytes

/-- The whole structure of R113 to R122 on the bytes of `data`. -/
def crc64Structured (t : TableSet) (data : List Byte) (init : Word) : Word :=
  let crc := complement init
  let stop := stopOf data.length
  if data.length < fastGateBytes then complement (stepBytes t.single crc data)
  else
    let lanes := wideLoop t.wide data (stop / blockBytes - 1) 0 (laneStart crc)
    let folded := foldLanes t.single data (stop - blockBytes) lanes
    complement (stepBytes t.single folded (data.drop stop))

/-! ### The command -/

/-- The operand checks of COMPUTE, in order (R110, R111). -/
def checkCompute (s : State) : Option InvalidArg :=
  if lengthNegative s.args[1] then some .negativeLength
  else if lengthValue s.args[1] > Memory.avail s.data then some .bufferSize
  else none

/-- What COMPUTE does once the tables stand: read `DATA[0 : n]` and fold it into `ARG0` (R110). -/
def workCompute (s : State) : Host.Outcome State Fault Refusal :=
  match Memory.readBytes s.data 0 (lengthValue s.args[1]) with
  | some bytes => finish (crc64 s.tables.single bytes s.args[0]) s
  | none => .fault .dataOutOfRange

/-- COMPUTE (R110). -/
def execCompute (s : State) : Host.Outcome State Fault Refusal :=
  launch (encode .compute) checkCompute workCompute s

end Sys2Proof.Machine
end

