-- ==== Sys2Proof/Machine/TableCommands.lean ====
section
/-! DEFINITION. The commands TBL_SINGLE, TBL_WIDE and TBL_BUILD (40_table_set.md R103 to R105). -/

namespace Sys2Proof.Machine

/-- The operand check of TBL_SINGLE (R104). -/
def checkTblSingle (s : State) : Option InvalidArg :=
  if byteValueLegal s.args[0] then none else some .malformed

/-- What TBL_SINGLE does once the tables stand: `RESULT <- single[ARG0[7:0]]` (R104). -/
def workTblSingle (s : State) : Host.Outcome State Fault Refusal :=
  finish (lookup s.tables.single (byteOf s.args[0])) s

/-- TBL_SINGLE (R104). -/
def execTblSingle (s : State) : Host.Outcome State Fault Refusal :=
  launch (encode .tblSingle) checkTblSingle workTblSingle s

/-- The operand check of TBL_WIDE: one check covers both operands (R105, R170). -/
def checkTblWide (s : State) : Option InvalidArg :=
  if tapIndexLegal s.args[0] && byteValueLegal s.args[1] then none else some .malformed

/-- What TBL_WIDE does once the tables stand: `RESULT <- wide[ARG0[2:0]][ARG1[7:0]]` (R105). -/
def workTblWide (s : State) : Host.Outcome State Fault Refusal :=
  finish (wideLookup s.tables.wide (tapOf s.args[0]) (byteOf s.args[1])) s

/-- TBL_WIDE (R105). -/
def execTblWide (s : State) : Host.Outcome State Fault Refusal :=
  launch (encode .tblWide) checkTblWide workTblWide s

/-- What TBL_BUILD does once the tables stand: nothing; it has no result and `VALID` stays 0 (R103). -/
def workTblBuild (s : State) : Host.Outcome State Fault Refusal := .next s

/-- TBL_BUILD: construct the tables if they do not stand yet (R103). -/
def execTblBuild (s : State) : Host.Outcome State Fault Refusal :=
  launch (encode .tblBuild) (fun _ => none) workTblBuild s

end Sys2Proof.Machine
end

