-- ==== Sys2Proof/Machine/Dispatch.lean ====
section
/-! DEFINITION. One arm per command: its meaning. -/

namespace Sys2Proof.Machine

def exec (i : Instr) (s : State) : Host.Outcome State Fault Refusal :=
  match i with
  | .compute => Sys2Proof.Machine.execCompute s
  | .combine => Sys2Proof.Machine.execCombine s
  | .mulxn => Sys2Proof.Machine.execMulxn s
  | .gf2mul => Sys2Proof.Machine.execGf2mul s
  | .tblSingle => Sys2Proof.Machine.execTblSingle s
  | .tblWide => Sys2Proof.Machine.execTblWide s
  | .tblBuild => Sys2Proof.Machine.execTblBuild s

end Sys2Proof.Machine
end

