-- ==== Sys2Proof/Machine/Transact.lean ====
section
/-! DEFINITION. The host's transactions (30_encoding.md R83, 10_state.md R22, R24). -/

namespace Sys2Proof.Machine

/-- A host write of `w` to `CMD` launches the command `w` encodes (R24, R169). -/
def launchWord (w : Word) (s : State) : Host.Outcome State Fault Refusal :=
  match decode w with
  | .ok i => exec i s
  | .error _ => .next (launchIllegal w s)

/-- A host write (R22): index 0 launches, `STATUS` and `RESULT` ignore it, `ARGm` stores it, and a reserved
index ignores it. -/
def hostWrite (reg : Nat) (v : Word) (s : State) : Host.Outcome State Fault Refusal :=
  match reg with
  | 0 => launchWord v s
  | 1 => .next s
  | 2 => .next s
  | m + 3 => .next (if m < 7 then writeArg m v s else s)

/-- A host read (R22): the register's 64 bits, no side effect on the block. A reserved index is refused
(U6). -/
def hostRead (reg : Nat) (s : State) : Host.Outcome State Fault Refusal :=
  match readReg s reg with
  | some v => .next (noteRead v s)
  | none => .refused (.reservedRegisterRead reg)

/-- One transaction, atomic together with the command it may launch (R62). -/
def transact (t : HostTxn) (s : State) : Host.Outcome State Fault Refusal :=
  match t with
  | .wr reg v => hostWrite reg v s
  | .rd reg => hostRead reg s
  | .bind bytes => .next (bindData bytes s)
  | .reset ok => .next (resetBlock ok s)

/-- The host has issued its next transaction. -/
def popPending (rest : List HostTxn) (s : State) : State := { s with pending := rest }

/-- The host's transaction list with one more transaction in front. -/
def pushPending (t : HostTxn) (s : State) : State := { s with pending := t :: s.pending }

/-- One step: the host's next transaction. With none left the block waits (R181, R196). -/
def stepHost (s : State) : Host.Outcome State Fault Refusal :=
  match s.pending with
  | [] => .next s
  | t :: rest => transact t (popPending rest s)

/-- The command word of `nbits` bits with value `w`. -/
def fetchedWord (nbits w : Nat) : Word := BitVec.ofNat 64 (w % 2 ^ nbits)

end Sys2Proof.Machine
end

