-- ==== Sys2Proof/Machine/Step.lean ====
section
/-! DEFINITION. One step of the machine, and how an instruction is placed to run next. -/

namespace Sys2Proof.Machine

/-- One step: the host's next transaction (R62). -/
def step (s : State) : Host.Outcome State Fault Refusal := stepHost s

/-- The block fetches nothing: a command is the word the host writes to `CMD` (10_state.md R27). So the
instruction is placed as the host's next transaction, the write of that word to `CMD`. -/
def State.withFetchWord (s : State) (nbits w : Nat) : State :=
  pushPending (.wr 0 (fetchedWord nbits w)) s

end Sys2Proof.Machine
end

