-- ==== Sys2Proof/Safety.lean ====
section
/-! DEFINITION. What counts as a safe run (70_reset_and_hazards.md R196), the transactions the spec gives no
meaning (93_implementation_defined.md U1 to U3, U6), and the invariants of the block. -/

namespace Sys2Proof.Safety

open Sys2Proof.Machine

/-! ### Transactions on unspecified values -/

/-- Why a transaction rests on a value the spec does not fix. -/
inductive Unspecified where
  /-- read of `CMD` before the first launch after reset (U1) -/
  | cmdNotLaunched
  /-- read of an `ARGm` not written since reset (U2) -/
  | argNotWritten (m : Nat)
  /-- read of `RESULT` while `VALID` = 0 (U3) -/
  | resultNotValid
  /-- read of a register index of 10 or more (U6) -/
  | reservedIndex (reg : Nat)
  /-- launch of a command that reads an `ARGm` not written since reset (U2, R169) -/
  | operandNotWritten (i : Instr)
  deriving DecidableEq, Repr

/-- Has the host written every operand register the command reads (R23, R42)? -/
def operandsWritten (i : Instr) (s : State) : Bool :=
  (operandRegs i).all fun m => s.argWritten[m]

/-- Does a read of the register return a value the spec does not fix (U1, U2, U3, U6)? -/
def readUnspecified (reg : Nat) (s : State) : Option Unspecified :=
  match reg with
  | 0 => if s.cmdWritten then none else some .cmdNotLaunched
  | 1 => none
  | 2 => if s.valid then none else some .resultNotValid
  | m + 3 =>
    match s.argWritten[m]? with
    | some true => none
    | some false => some (.argNotWritten m)
    | none => some (.reservedIndex (m + 3))

/-- Does the write of `w` to `CMD` launch a command with an unwritten operand (U2)? A dead block launches
nothing (R168) and an illegal word reads no operand (R170). -/
def launchUnspecified (w : Word) (s : State) : Option Unspecified :=
  if s.fatal then none
  else
    match decode w with
    | .ok i => if operandsWritten i s then none else some (.operandNotWritten i)
    | .error _ => none

/-- Does the transaction rest on a value the spec does not fix? -/
def txnUnspecified (t : HostTxn) (s : State) : Option Unspecified :=
  match t with
  | .wr 0 w => launchUnspecified w s
  | .wr _ _ => none
  | .rd reg => readUnspecified reg s
  | .bind _ => none
  | .reset _ => none

/-- Does the next step rest on a value the spec does not fix? -/
def nextUnspecified (s : State) : Option Unspecified :=
  match s.pending with
  | [] => none
  | t :: _ => txnUnspecified t s

/-- The step with the spec's own treatment of those transactions, which is to refuse them (U1, U2, U3, U6);
every other transaction is the machine's step. -/
def strictStep (s : State) : Host.Outcome State Fault (Unspecified ⊕ Refusal) :=
  match nextUnspecified s with
  | some u => .refused (.inl u)
  | none =>
    match step s with
    | .next t => .next t
    | .fault r => .fault r
    | .refused r => .refused (.inr r)

/-- A run has gone wrong at a state that is dead or whose next transaction is refused (R196). -/
def goneWrong (s : State) : Bool := s.fatal || (nextUnspecified s).isSome

/-- Two blocks that agree on every value the spec fixes. What may differ: `CMD` before the first launch, an
unwritten `ARGm`, `RESULT` while `VALID` = 0, the tables before construction, and how many free values
have been drawn. -/
def SameSpecified (s t : State) : Prop :=
  s.cmdWritten = t.cmdWritten ∧ (s.cmdWritten = true → s.cmd = t.cmd)
  ∧ s.tblReady = t.tblReady ∧ s.valid = t.valid ∧ s.err = t.err ∧ s.fatal = t.fatal
  ∧ s.cause = t.cause ∧ (s.valid = true → s.result = t.result)
  ∧ s.argWritten = t.argWritten
  ∧ (∀ m : Fin 7, s.argWritten[m] = true → s.args[m] = t.args[m])
  ∧ (s.tblReady = true → s.tables = t.tables)
  ∧ s.data = t.data ∧ s.params = t.params ∧ s.tableBuildOk = t.tableBuildOk
  ∧ s.pending = t.pending ∧ s.reads = t.reads

/-! ### What a command does to the block, as predicates between the state before and after -/

/-- What no command changes: the operand registers and which of them are written (R22), every byte of `DATA`
and its length (R57), the parameters and the draw, and the host's own lists. -/
def KeepsInputs (s t : State) : Prop :=
  t.args = s.args ∧ t.argWritten = s.argWritten
  ∧ t.data = s.data ∧ (∀ a, Memory.read t.data a = Memory.read s.data a)
  ∧ t.params = s.params ∧ t.tableBuildOk = s.tableBuildOk
  ∧ t.pending = s.pending ∧ t.reads = s.reads

/-- The launched word is stored and the command ended with the result `v` (R160 outcome 1, R169 step 6). -/
def Succeeded (i : Instr) (v : Word) (s t : State) : Prop :=
  t.cmd = encode i ∧ t.cmdWritten = true ∧ t.result = v
  ∧ t.valid = true ∧ t.err = false ∧ t.fatal = false ∧ t.cause = .none
  ∧ t.tblReady = true ∧ t.tables = buildTables s.params.poly ∧ KeepsInputs s t

/-- The launched word is stored and the command was rejected with `InvalidArgument(c)`; the tables are not
touched (R160 outcome 2, R165). -/
def Rejected (w : Word) (c : InvalidArg) (s t : State) : Prop :=
  t.cmd = w ∧ t.cmdWritten = true
  ∧ t.valid = false ∧ t.err = true ∧ t.fatal = false ∧ t.cause = .invalidArgument c
  ∧ t.tblReady = s.tblReady ∧ t.tables = s.tables ∧ KeepsInputs s t

/-- The launched word is stored and table construction failed (R160 outcome 3, R167). -/
def Died (w : Word) (s t : State) : Prop :=
  t.cmd = w ∧ t.cmdWritten = true
  ∧ t.valid = false ∧ t.err = false ∧ t.fatal = true ∧ t.cause = .tableBuildFailure
  ∧ t.tblReady = false ∧ KeepsInputs s t

/-- The tables stand or can be built, so `ensure_tables()` does not raise (R102). -/
def CanBuild (s : State) : Prop := s.tblReady = true ∨ s.tableBuildOk = true

/-- The operand check of each command, written from the list of R169 step 4. -/
def operandCheck (i : Instr) (s : State) : Option InvalidArg :=
  match i with
  | .compute =>
    if s.args[1].getLsbD 63 then some .negativeLength
    else if s.data.length < (s.args[1].extractLsb' 0 63).toNat then some .bufferSize
    else none
  | .combine =>
    if s.args[3].getLsbD 63 ∨ s.args[6].getLsbD 63 then some .negativeLength else none
  | .mulxn => if s.args[1].getLsbD 63 then some .negativeLength else none
  | .gf2mul => none
  | .tblSingle => if s.args[0].toNat > 255 then some .malformed else none
  | .tblWide => if s.args[0].toNat > 7 ∨ s.args[1].toNat > 255 then some .malformed else none
  | .tblBuild => none

/-! ### Invariants -/

/-- The flags as R25, R161 and R167 allow them. -/
def StatusLegal (s : State) : Prop :=
  ¬(s.valid = true ∧ s.err = true)
  ∧ (s.fatal = true → s.valid = false ∧ s.err = false ∧ s.tblReady = false)
  ∧ (s.fatal = true ↔ s.cause = .tableBuildFailure)
  ∧ (s.err = true ↔ ∃ c, s.cause = .invalidArgument c)
  ∧ (s.valid = true → s.tblReady = true)

/-- Construction succeeds only where the environment drew success, and fails only where it did not (R102,
R182). -/
def BuildLegal (s : State) : Prop :=
  (s.tblReady = true → s.tableBuildOk = true) ∧ (s.fatal = true → s.tableBuildOk = false)

/-- Once `TBL_READY` = 1 both tables hold the values of R91 and R94 (R33, R101). -/
def TablesLegal (s : State) : Prop :=
  s.tblReady = true → s.tables = buildTables s.params.poly

/-- The invariant of the block. -/
def Invariant (s : State) : Prop :=
  StatusLegal s ∧ BuildLegal s ∧ TablesLegal s ∧ Memory.wf s.data = true

end Sys2Proof.Safety
end

