-- ==== Sys2Proof/Certificates/Slice0/Obligations.lean ====
section
/-! DEFINITION. The statements for the provers. -/

open Sys2Proof Sys2Proof.Machine Sys2Proof.Safety

/-! ### Encoding -/

/-- A few command words written out from R72 and R73, each with what it decodes to. -/
def Obligations.DecodeSanity : Prop :=
  decode 0x0000000000000001 = .ok .compute ∧ decode 0x0000000000000002 = .ok .combine
  ∧ decode 0x0000000000000006 = .ok .tblWide ∧ decode 0x0000000000000007 = .ok .tblBuild
  ∧ decode 0x0000000000000000 = .error (.unusedOpcode 0x00)
  ∧ decode 0x0000000000000008 = .error (.unusedOpcode 0x08)
  ∧ decode 0x0000000000000101 = .error .zeroFieldSet
  ∧ decode 0x8000000000000001 = .error .zeroFieldSet

/-- A word selects a command exactly when it is that command's word of R72; every other word is illegal, and
illegal means a set bit in 63:8 or an opcode that is 0x00 or above 0x07 (R73, R74). -/
def Obligations.DecodeExactlyTheSevenWords : Prop :=
  ∀ w : Word,
    (∀ i, decode w = .ok i ↔ w = encode i)
    ∧ ((∃ e, decode w = .error e) ↔
        (w.toNat / 256 ≠ 0 ∨ w.toNat % 256 = 0 ∨ w.toNat % 256 ≥ 8))

/-- The decoder written from the opcode table alone is the decoding procedure, and no word selects two rows
(R72, R74, R85). -/
def Obligations.TableDecoderAgrees : Prop :=
  (∀ w : Word, decodeByTable w = (decode w).toOption)
  ∧ (∀ w : Word, ∀ r ∈ opcodeTable, ∀ r' ∈ opcodeTable,
      r.selects w = true → r'.selects w = true → r = r')

/-! ### The step -/

/-- When the host's next transaction writes to `CMD` a word that decodes to `i`, the step is `exec i` at that
state with the transaction consumed; a placed instruction is fetched and run so; and with no transaction
left the step changes nothing. That the host's list is a field of the state, and that the step then idles, is
the model's choice (notes/assumptions/7.md). -/
def Obligations.StepRunsDecodedInstruction : Prop :=
  (∀ (s : State) (w : Word) (rest : List HostTxn) (i : Instr),
    s.pending = .wr 0 w :: rest → decode w = .ok i →
      step s = exec i { s with pending := rest })
  ∧ (∀ (s : State) (i : Instr), step (s.withFetchWord 64 (encode i).toNat) = exec i s)
  ∧ (∀ s : State, s.pending = [] → step s = .next s)

/-- The access rules of the registers (R22): a host write of an `ARGm` replaces all 64 bits of that one and of
no other; writes to `STATUS`, `RESULT` and the reserved indices change nothing; a read returns the register
and changes nothing in the block; and a launch, of a command or of an illegal word, writes no `ARGm` and
leaves in `CMD` no word but the host's. Two clauses are the model's choice (notes/assumptions/10.md): a read
of a reserved index, which in hardware returns an unspecified value, is refused; and a read of `CMD` or of
an `ARGm` that nothing has written, or of `RESULT` while `VALID` = 0, returns what the model's register
holds. -/
def Obligations.RegisterAccessRules : Prop :=
  (∀ (s : State) (m : Fin 7) (v : Word) (rest : List HostTxn),
    s.pending = .wr (3 + m) v :: rest →
      ∃ t, step s = .next t ∧ t.args[m] = v ∧ t.argWritten[m] = true
        ∧ (∀ j : Fin 7, j ≠ m → t.args[j] = s.args[j] ∧ t.argWritten[j] = s.argWritten[j])
        ∧ t = { s with pending := rest, args := t.args, argWritten := t.argWritten })
  ∧ (∀ (s : State) (reg : Nat) (v : Word) (rest : List HostTxn),
    s.pending = .wr reg v :: rest → reg = 1 ∨ reg = 2 ∨ reg ≥ 10 →
      step s = .next { s with pending := rest })
  ∧ (∀ (s : State) (reg : Nat) (rest : List HostTxn),
    s.pending = .rd reg :: rest → reg < 10 →
      ∃ v, step s = .next { s with pending := rest, reads := s.reads ++ [v] }
        ∧ (reg = 0 → v = s.cmd) ∧ (reg = 1 → v = statusWord s) ∧ (reg = 2 → v = s.result)
        ∧ (∀ m : Fin 7, reg = 3 + m → v = s.args[m]))
  ∧ (∀ (s : State) (reg : Nat) (rest : List HostTxn),
    s.pending = .rd reg :: rest → reg ≥ 10 →
      step s = .refused (.reservedRegisterRead reg))
  ∧ (∀ (w : Word) (s t : State), launchWord w s = .next t →
      t.args = s.args ∧ t.argWritten = s.argWritten ∧ (t.cmd = s.cmd ∨ t.cmd = w))

/-- `bind s` makes `DATA` equal to `s` and `DATA_AVAIL` equal to its length, whatever the block's state, and
changes nothing else (R34). The canonical form of the cells is the model's choice (notes/assumptions/8.md). -/
def Obligations.BindSetsTheBuffer : Prop :=
  ∀ (s : State) (bytes : List Byte) (rest : List HostTxn),
    s.pending = .bind bytes :: rest →
      ∃ t, step s = .next t ∧ Memory.wf t.data = true ∧ Memory.avail t.data = bytes.length
        ∧ (∀ a, Memory.read t.data a = bytes[a]?)
        ∧ t = { s with pending := rest, data := t.data }

/-- The bits of the word a read of `STATUS` returns: the four flags, `CAUSE` by its code, and 0 in every
reserved bit (R25, R161). -/
def Obligations.StatusWordLayout : Prop :=
  ∀ s : State,
    (statusWord s).getLsbD 0 = s.tblReady ∧ (statusWord s).getLsbD 1 = s.valid
    ∧ (statusWord s).getLsbD 2 = s.err ∧ (statusWord s).getLsbD 3 = s.fatal
    ∧ (statusWord s).extractLsb' 4 4 = 0 ∧ (statusWord s).extractLsb' 16 48 = 0
    ∧ (s.cause = .none → (statusWord s).extractLsb' 8 8 = 0x00)
    ∧ (s.cause = .invalidArgument .negativeLength → (statusWord s).extractLsb' 8 8 = 0x01)
    ∧ (s.cause = .invalidArgument .bufferSize → (statusWord s).extractLsb' 8 8 = 0x02)
    ∧ (s.cause = .invalidArgument .malformed → (statusWord s).extractLsb' 8 8 = 0x03)
    ∧ (s.cause = .tableBuildFailure → (statusWord s).extractLsb' 8 8 = 0x10)

/-! ### Reset and the invariant -/

/-- What the reset transaction does under the three rows of R182, for every state it meets, dead ones too. -/
def Obligations.ResetEffect : Prop :=
  ∀ (s : State) (ok : Bool) (rest : List HostTxn),
    s.pending = .reset ok :: rest →
      ∃ t, step s = .next t
        ∧ t.tableBuildOk = ok ∧ t.data = [] ∧ t.argWritten = Vector.replicate 7 false
        ∧ t.cmdWritten = false ∧ t.valid = false ∧ t.err = false
        ∧ t.params = s.params ∧ t.pending = rest ∧ t.reads = s.reads
        ∧ (s.params.tableBuildAtReset = false →
            t.tblReady = false ∧ t.fatal = false ∧ statusWord t = 0x0000000000000000)
        ∧ (s.params.tableBuildAtReset = true → ok = true →
            t.tblReady = true ∧ t.fatal = false ∧ statusWord t = 0x0000000000000001
            ∧ t.tables = buildTables s.params.poly)
        ∧ (s.params.tableBuildAtReset = true → ok = false →
            t.tblReady = false ∧ t.fatal = true ∧ statusWord t = 0x0000000000001008)

/-- The state after reset has the invariant, lists nothing, and shows `STATUS` 0. Its lazy table policy is the
model's choice (notes/assumptions/5.md). -/
def Obligations.ResetStateHasInvariant : Prop :=
  Invariant State.reset ∧ State.reset.data = [] ∧ statusWord State.reset = 0
  ∧ (∀ m : Fin 7, State.reset.argWritten[m] = false)

/-- Every step keeps the invariant: the flags stay legal, the tables once built stay those of `POLY`, and
`DATA` keeps its canonical form. -/
def Obligations.StepKeepsInvariant : Prop :=
  ∀ s t : State, Invariant s → step s = .next t → Invariant t

/-- Reset is the only thing that clears `FATAL` and the only thing that clears `TBL_READY`; nothing but reset
changes tables that stand (R101, R180). -/
def Obligations.OnlyResetRevivesOrUnbuilds : Prop :=
  ∀ s t : State, (∀ ok rest, s.pending ≠ .reset ok :: rest) → step s = .next t →
    (s.fatal = true → t.fatal = true ∧ t.cause = s.cause ∧ t.cmd = s.cmd)
    ∧ (s.tblReady = true → t.tblReady = true ∧ t.tables = s.tables)

/-- The parameters never change, and the draw of `table_build_ok` holds until the next reset (R8, R182). That
both are fields of the state is the model's choice (notes/assumptions/5.md, 6.md). -/
def Obligations.ParametersAreFixed : Prop :=
  ∀ s t : State, step s = .next t →
    t.params = s.params
    ∧ ((∀ ok rest, s.pending ≠ .reset ok :: rest) → t.tableBuildOk = s.tableBuildOk)

/-- The block writes no memory: only `bind` and `reset` change any byte of `DATA` or its length (R57). -/
def Obligations.BlockWritesNoMemory : Prop :=
  ∀ s t : State, step s = .next t →
    (∀ bytes rest, s.pending ≠ .bind bytes :: rest) → (∀ ok rest, s.pending ≠ .reset ok :: rest) →
      (∀ a, Memory.read t.data a = Memory.read s.data a) ∧ Memory.avail t.data = Memory.avail s.data

/-- From a state with the invariant no step faults: COMPUTE reads only bytes that are bound (R51), and every
launch at a live block ends in a result, a reject or a death (R160). And from every state the only refused
step is the read of a reserved register index. This second clause is the model's choice, not the spec's: the
reserved read is refused where hardware returns an unspecified value, and the reads of an unwritten `CMD` or
`ARGm` and of `RESULT` while `VALID` = 0 are not refused (notes/assumptions/10.md), nor is the launch of a
command with an operand register not written since reset (notes/assumptions/2.md), all of which the spec
has a model refuse (R169, U1, U2, U3). -/
def Obligations.StepStopsOnlyOnReservedRead : Prop :=
  (∀ (s : State) (r : Fault), Invariant s → step s ≠ .fault r)
  ∧ (∀ (s : State) (r : Refusal), step s = .refused r →
      ∃ reg rest, s.pending = .rd reg :: rest ∧ reg ≥ 10 ∧ r = .reservedRegisterRead reg)

/-! ### The launch sequence -/

/-- The launch of every command, whole: its operand check rejects it, or construction kills the block, or it
ends with a result (TBL_BUILD, whose end is `Obligations.TblBuildCompletes`, has none), in the order of
R169. An operand register not written since reset is read as it stands: the model's choice
(notes/assumptions/2.md). -/
def Obligations.LaunchSequence : Prop :=
  ∀ (i : Instr) (s : State), Invariant s → s.fatal = false →
    (∀ c, operandCheck i s = some c → ∃ t, exec i s = .next t ∧ Rejected (encode i) c s t)
    ∧ (operandCheck i s = none → ¬CanBuild s → ∃ t, exec i s = .next t ∧ Died (encode i) s t)
    ∧ (operandCheck i s = none → CanBuild s → i ≠ .tblBuild →
        ∃ t v, exec i s = .next t ∧ Succeeded i v s t)

/-- An illegal command word: a set bit in 63:8, or an opcode `0x00` or above `0x07`. It selects no command,
every other word selects one, and its launch is rejected with `MALFORMED` with nothing else changed and the
tables not constructed (R73). -/
def Obligations.IllegalWordIsMalformed : Prop :=
  ∀ w : Word,
    ((∃ i, decode w = .ok i) ↔
      ¬(w.extractLsb' 8 56 ≠ 0 ∨ w.extractLsb' 0 8 = 0 ∨ (w.extractLsb' 0 8).toNat ≥ 8))
    ∧ ∀ (s : State) (rest : List HostTxn),
      s.pending = .wr 0 w :: rest → s.fatal = false →
      (w.extractLsb' 8 56 ≠ 0 ∨ w.extractLsb' 0 8 = 0 ∨ (w.extractLsb' 0 8).toNat ≥ 8) →
        ∃ t, step s = .next t ∧ Rejected w .malformed { s with pending := rest } t

/-- A dead block: every write to `CMD` is ignored whole, writes to `ARGm` still store, reads still return the
registers, `bind` still binds; every step but a reset leaves it dead with `CMD`, `VALID`, `ERR` and `CAUSE`
as they were, `CAUSE` being `0x10` wherever the invariant holds; and a reset draws `table_build_ok` again,
after which a block that drew success is alive (R168). -/
def Obligations.DeadBlockIgnoresLaunches : Prop :=
  (∀ (s : State) (rest : List HostTxn), s.fatal = true →
    (∀ w, s.pending = .wr 0 w :: rest → step s = .next { s with pending := rest })
    ∧ (∀ (m : Fin 7) (v : Word), s.pending = .wr (3 + m) v :: rest →
        ∃ t, step s = .next t ∧ t.args[m] = v)
    ∧ (∀ reg, reg < 10 → s.pending = .rd reg :: rest →
        ∃ v, readReg s reg = some v
          ∧ step s = .next { s with pending := rest, reads := s.reads ++ [v] })
    ∧ (∀ bytes, s.pending = .bind bytes :: rest →
        ∃ t, step s = .next t ∧ t.data.map Prod.snd = bytes)
    ∧ (∀ ok, s.pending = .reset ok :: rest →
        ∃ t, step s = .next t ∧ t.tableBuildOk = ok ∧ (ok = true → t.fatal = false)))
  ∧ (∀ s t : State, s.fatal = true → (∀ ok rest, s.pending ≠ .reset ok :: rest) → step s = .next t →
      t.fatal = true ∧ t.cmd = s.cmd ∧ t.valid = s.valid ∧ t.err = s.err ∧ t.cause = s.cause
      ∧ (Invariant s → t.cause = .tableBuildFailure))

/-- The frame of all seven commands. Where `exec` gives a next state: the operand registers, every byte of
`DATA`, the parameters, the draw and the host's lists are unchanged; the tables are unchanged unless this
command built them, from `POLY`; at a dead block nothing at all changes; at a live one `CMD` holds the
command's word. Only `CMD`, the flags, `CAUSE`, `RESULT`, the tables and the count of free values may
change. -/
def Obligations.LaunchFrame : Prop :=
  ∀ (i : Instr) (s t : State), exec i s = .next t →
    KeepsInputs s t
    ∧ (s.fatal = true → t = s)
    ∧ (s.fatal = false → t.cmd = encode i ∧ t.cmdWritten = true)
    ∧ (t.tables = s.tables ∧ t.tblReady = s.tblReady
        ∨ s.tblReady = false ∧ t.tblReady = true ∧ t.tables = buildTables s.params.poly)

/-- GF2MUL and TBL_BUILD never raise `InvalidArgument`, whatever the registers hold, and no command raises a
cause its row of R163 does not list. -/
def Obligations.WhoRaisesWhat : Prop :=
  ∀ (i : Instr) (s t : State) (c : InvalidArg), s.fatal = false → exec i s = .next t →
    t.cause = .invalidArgument c →
      (c = .negativeLength ∧ (i = .compute ∨ i = .combine ∨ i = .mulxn))
      ∨ (c = .bufferSize ∧ i = .compute)
      ∨ (c = .malformed ∧ (i = .tblSingle ∨ i = .tblWide))

/-- A command launched a second time, with nothing between, ends as the first time: the same flags and cause,
and the same `RESULT` where there is one (R39, R126, R171). -/
def Obligations.RelaunchRepeats : Prop :=
  ∀ (i : Instr) (s t : State), exec i s = .next t →
    ∃ t', exec i t = .next t' ∧ t'.valid = t.valid ∧ t'.err = t.err ∧ t'.fatal = t.fatal
      ∧ t'.cause = t.cause ∧ t'.tblReady = t.tblReady ∧ (t.valid = true → t'.result = t.result)

/-! ### The commands' results

Every statement of this part that speaks of a command with operands includes the launch with an operand
register not written since reset, which the model runs on the register's value: the model's choice
(notes/assumptions/2.md). -/

/-- COMPUTE with a valid length completes with `crc64(DATA[0 : n], ARG0)` (R110, R112). -/
def Obligations.ComputeCompletes : Prop :=
  ∀ s : State, TablesLegal s → Memory.wf s.data = true → s.fatal = false → CanBuild s →
    s.args[1].toNat < 2 ^ 63 → s.args[1].toNat ≤ Memory.avail s.data →
      ∃ t, exec .compute s = .next t ∧ Succeeded .compute
        (crc64 (buildSingle s.params.poly) ((s.data.map Prod.snd).take s.args[1].toNat) s.args[0]) s t

/-- COMPUTE's rejects in their order: a negative length first, then a length above `DATA_AVAIL` (R111). -/
def Obligations.ComputeRejects : Prop :=
  ∀ s : State, s.fatal = false →
    (s.args[1].toInt < 0 → ∃ t, exec .compute s = .next t ∧ Rejected 0x01 .negativeLength s t)
    ∧ (0 ≤ s.args[1].toInt → s.args[1].toInt > (Memory.avail s.data : Int) →
        ∃ t, exec .compute s = .next t ∧ Rejected 0x01 .bufferSize s t)

/-- COMBINE with valid lengths completes with the value of the six steps of R146, `mulXN` being `n` zero steps
(R145, R146). -/
def Obligations.CombineCompletes : Prop :=
  ∀ s : State, TablesLegal s → s.fatal = false → CanBuild s →
    s.args[3].toNat < 2 ^ 63 → s.args[6].toNat < 2 ^ 63 →
      ∃ t, exec .combine s = .next t ∧ Succeeded .combine
        (adv (buildSingle s.params.poly)
          (s.args[2] ^^^ 0xFFFFFFFFFFFFFFFF
            ^^^ (if s.args[1] ≠ s.args[0] then
                  adv (buildSingle s.params.poly) (s.args[1] ^^^ s.args[0]) s.args[3].toNat
                else 0)
            ^^^ (s.args[4] ^^^ 0xFFFFFFFFFFFFFFFF)) s.args[6].toNat ^^^ s.args[5]) s t

/-- MULXN with a valid length completes with `ARG0` advanced past that many zero bytes, in whichever form the
block computes it (R140, R141, R143). -/
def Obligations.MulxnCompletes : Prop :=
  ∀ s : State, TablesLegal s → s.fatal = false → CanBuild s → s.args[1].toNat < 2 ^ 63 →
    ∃ t, exec .mulxn s = .next t ∧ Succeeded .mulxn
      (adv (buildSingle s.params.poly) s.args[0] s.args[1].toNat) s t

/-- MULXN and COMBINE reject a negative length, once, whatever the other operands hold (R140, R145). -/
def Obligations.NegativeLengthRejects : Prop :=
  ∀ s : State, s.fatal = false →
    (s.args[1].toInt < 0 → ∃ t, exec .mulxn s = .next t ∧ Rejected 0x03 .negativeLength s t)
    ∧ (s.args[3].toInt < 0 ∨ s.args[6].toInt < 0 →
        ∃ t, exec .combine s = .next t ∧ Rejected 0x02 .negativeLength s t)

/-- GF2MUL completes on every operand with the product of the two field elements: the XOR of `a * x^i` over
the coefficients of `b` (R133, R134). -/
def Obligations.Gf2mulCompletes : Prop :=
  ∀ s : State, TablesLegal s → s.fatal = false → CanBuild s →
    ∃ t, exec .gf2mul s = .next t ∧ Succeeded .gf2mul
      ((List.range 64).foldl
        (fun r i => if s.args[1].getLsbD (63 - i) then r ^^^ mulxIter s.params.poly i s.args[0] else r) 0) s t

/-- TBL_SINGLE with a byte value up to 255 completes with `single[b]`, eight `mulx` of `b` (R91, R104). -/
def Obligations.TblSingleCompletes : Prop :=
  ∀ s : State, TablesLegal s → s.fatal = false → CanBuild s → s.args[0].toNat ≤ 255 →
    ∃ t, exec .tblSingle s = .next t ∧ Succeeded .tblSingle (mulxIter s.params.poly 8 s.args[0]) s t

/-- TBL_WIDE with a tap up to 7 and a byte value up to 255 completes with `wide[k][b]`, which is
`adv(single[b], 24 + k)` and stands at flat index `256 * k + b` (R94, R105, R78). Which sub-table stands at tap
`k` rests on the direction of the tap index, which the spec's own source leaves open
(notes/assumptions/12.md). -/
def Obligations.TblWideCompletes : Prop :=
  ∀ s : State, TablesLegal s → s.fatal = false → CanBuild s →
    s.args[0].toNat ≤ 7 → s.args[1].toNat ≤ 255 →
      ∃ t, exec .tblWide s = .next t
        ∧ Succeeded .tblWide
            (adv (buildSingle s.params.poly) (mulxIter s.params.poly 8 s.args[1]) (24 + s.args[0].toNat)) s t
        ∧ (wideFlat t.tables.wide)[256 * s.args[0].toNat + s.args[1].toNat]? = some t.result

/-- TBL_SINGLE and TBL_WIDE reject an operand above its range, however high the bit that is set; it is not
masked and never read as a length (R75, R104, R105). -/
def Obligations.TableIndexRejects : Prop :=
  ∀ s : State, s.fatal = false →
    (s.args[0].toNat > 255 → ∃ t, exec .tblSingle s = .next t ∧ Rejected 0x05 .malformed s t)
    ∧ (s.args[0].toNat > 7 ∨ s.args[1].toNat > 255 →
        ∃ t, exec .tblWide s = .next t ∧ Rejected 0x06 .malformed s t)

/-- TBL_BUILD completes without a result: the tables stand, `VALID`, `ERR` and `CAUSE` are 0, and tables that
stood already are not rebuilt (R103). -/
def Obligations.TblBuildCompletes : Prop :=
  ∀ s : State, s.fatal = false → CanBuild s →
    ∃ t, exec .tblBuild s = .next t ∧ t.cmd = 0x07 ∧ statusWord t = 0x0000000000000001
      ∧ t.valid = false ∧ t.err = false ∧ t.cause = .none ∧ t.fatal = false
      ∧ (s.tblReady = true → t.tables = s.tables)
      ∧ (s.tblReady = false → t.tables = buildTables s.params.poly)
      ∧ KeepsInputs s t

/-- When the tables do not stand and cannot be built, the first command that passes its operand check kills
the block: `STATUS` reads 0x1008. A command its check rejects does not (R102, R167, R170). -/
def Obligations.BuildFailureKills : Prop :=
  ∀ (i : Instr) (s : State), s.fatal = false → s.tblReady = false → s.tableBuildOk = false →
    (operandCheck i s = none →
      ∃ t, exec i s = .next t ∧ Died (encode i) s t ∧ statusWord t = 0x0000000000001008)
    ∧ (∀ c, operandCheck i s = some c →
      ∃ t, exec i s = .next t ∧ Rejected (encode i) c s t ∧ t.fatal = false)

/-! ### Whole-machine statements -/

/-- No value the spec leaves unspecified can influence a step the spec gives a meaning: two blocks that agree
on everything the spec fixes still agree so after it, the values their reads returned among it. The values
the model chose for reset (notes/assumptions/1.md, 4.md) and the free values of `RESULT` are among what
may differ. -/
def Obligations.UnspecifiedValuesDoNotMatter : Prop :=
  ∀ s s' t : State, SameSpecified s s' → nextUnspecified s = none →
    step s = .next t → ∃ t', step s' = .next t' ∧ SameSpecified t t'

/-- Every transaction the spec gives a meaning completes, and the strict step, which refuses the others, is
then the machine's step (R196). The machine's own step completes some of the refused ones: the model's choice
(notes/assumptions/2.md, 10.md). -/
def Obligations.SpecifiedTransactionsComplete : Prop :=
  ∀ s : State, Invariant s →
    (nextUnspecified s = none → ∃ t, step s = .next t ∧ strictStep s = .next t)
    ∧ (∀ u, nextUnspecified s = some u → strictStep s = .refused (.inl u))

/-- `MULXN_IMPL` is not a parameter of behaviour: a block of the other form answers every step with the same
state, but for the parameter itself (R8, R143). -/
def Obligations.MulxnImplDoesNotMatter : Prop :=
  ∀ (s t : State) (impl : MulxnImpl), Invariant s → step s = .next t →
    step { s with params := { s.params with mulxnImpl := impl } }
      = .next { t with params := { t.params with mulxnImpl := impl } }

/-- COMBINE on the CRCs of two byte sequences gives the CRC of their concatenation, from the true seed, without
reading the data, whatever seeds the two were computed with (R145, R148). An operand register not written
since reset counts by the value it holds: the model's choice (notes/assumptions/2.md). -/
def Obligations.CombineCommandIsConcatenation : Prop :=
  ∀ (s : State) (A B : List Byte), TablesLegal s → s.fatal = false → CanBuild s →
    A.length < 2 ^ 63 → B.length < 2 ^ 63 →
    s.args[2] = crc64 (buildSingle s.params.poly) A s.args[1] →
    s.args[3].toNat = A.length →
    s.args[5] = crc64 (buildSingle s.params.poly) B s.args[4] →
    s.args[6].toNat = B.length →
      ∃ t, exec .combine s = .next t ∧ t.valid = true ∧ t.data = s.data
        ∧ t.result = crc64 (buildSingle s.params.poly) (A ++ B) s.args[0]

/-! ### The table set and the byte step -/

/-- The four properties of `single` that hold for every `POLY` (R93). -/
def Obligations.SingleProperties : Prop :=
  ∀ poly : Word,
    lookup (buildSingle poly) 0 = 0
    ∧ lookup (buildSingle poly) 0x80 = poly
    ∧ (∀ a b : Byte, lookup (buildSingle poly) (a ^^^ b)
        = lookup (buildSingle poly) a ^^^ lookup (buildSingle poly) b)
    ∧ (∀ q : Word, (∀ j < 8, lookup (buildSingle poly) (BitVec.ofNat 8 (2 ^ j))
          = lookup (buildSingle q) (BitVec.ofNat 8 (2 ^ j))) → buildSingle poly = buildSingle q)

/-- Every entry of `wide` by the three equivalent forms of R94: the chain along the taps, `24 + k` zero steps
of `single[b]`, and the byte `b` followed by `24 + k` zero bytes stepped through from 0. Which sub-table stands
at tap `k` rests on the direction of the tap index, which the spec's own source leaves open
(notes/assumptions/12.md). -/
def Obligations.WideEntries : Prop :=
  ∀ (poly : Word) (b : Byte),
    wideLookup (buildWide (buildSingle poly)) 0 b = adv (buildSingle poly) (lookup (buildSingle poly) b) 24
    ∧ (∀ k : BitVec 3, k ≠ 7 → wideLookup (buildWide (buildSingle poly)) (k + 1) b
        = zeroStep (buildSingle poly) (wideLookup (buildWide (buildSingle poly)) k b))
    ∧ (∀ k : BitVec 3, wideLookup (buildWide (buildSingle poly)) k b
        = stepBytes (buildSingle poly) 0 (b :: List.replicate (24 + k.toNat) 0))

/-- The laws of `adv` (R99). -/
def Obligations.AdvLaws : Prop :=
  ∀ (poly c : Word),
    adv (buildSingle poly) c 0 = c
    ∧ (∀ m, adv (buildSingle poly) c (m + 1) = zeroStep (buildSingle poly) (adv (buildSingle poly) c m))
    ∧ (∀ m n, adv (buildSingle poly) c (m + n) = adv (buildSingle poly) (adv (buildSingle poly) c m) n)
    ∧ (∀ m, adv (buildSingle poly) 0 m = 0)
    ∧ (∀ m, adv (buildSingle poly) c m = stepBytes (buildSingle poly) c (List.replicate m 0))

/-- Linearity of the byte step, the zero step and `adv`, and eight byte steps as one word (R100). -/
def Obligations.ByteStepLinearity : Prop :=
  ∀ (poly c d : Word),
    (∀ a b : Byte, byteStep (buildSingle poly) (c ^^^ d) (a ^^^ b)
      = byteStep (buildSingle poly) c a ^^^ byteStep (buildSingle poly) d b)
    ∧ zeroStep (buildSingle poly) (c ^^^ d) = zeroStep (buildSingle poly) c ^^^ zeroStep (buildSingle poly) d
    ∧ (∀ m, adv (buildSingle poly) (c ^^^ d) m = adv (buildSingle poly) c m ^^^ adv (buildSingle poly) d m)
    ∧ (∀ bytes : List Byte, bytes.length = 8 →
        stepBytes (buildSingle poly) c bytes = adv (buildSingle poly) (c ^^^ wordAt bytes 0) 8)

/-- The byte position `j` of the word read at `addr` is the byte at `addr + j`, for every `addr`, aligned or
not (R53, R54, R55). -/
def Obligations.LittleEndianWord : Prop :=
  ∀ (data : List Byte) (addr j : Nat), addr + 7 < data.length → j < 8 →
    data[addr + j]? = some (bytePos (wordAt data addr) j)

/-- The eight lookups of one lane, byte position `j` in tap `7 - j`, advance the lane's word past 32 bytes;
every tap maps 0 to 0 and is linear (R96). The direction of the tap index is one the spec's own source leaves
open (notes/assumptions/12.md). -/
def Obligations.LaneLookupsAdvance32 : Prop :=
  ∀ (poly u : Word),
    laneLookup (buildWide (buildSingle poly)) u = adv (buildSingle poly) u 32
    ∧ (∀ k : BitVec 3, wideLookup (buildWide (buildSingle poly)) k 0 = 0
        ∧ ∀ a b : Byte, wideLookup (buildWide (buildSingle poly)) k (a ^^^ b)
            = wideLookup (buildWide (buildSingle poly)) k a
              ^^^ wideLookup (buildWide (buildSingle poly)) k b)

/-! ### The engine -/

/-- An empty input gives the seed back, whatever the table holds; COMPUTE of length 0 answers `ARG0`, with or
without a bound buffer (R124). That COMPUTE runs with an operand register not written since reset is the
model's choice (notes/assumptions/2.md). -/
def Obligations.EmptyInputIdentity : Prop :=
  (∀ (single : Vector Word 256) (s : Word), crc64 single [] s = s)
  ∧ (∀ s : State, s.fatal = false → CanBuild s → s.args[1] = 0 →
      ∃ t, exec .compute s = .next t ∧ t.valid = true ∧ t.result = s.args[0])

/-- Streaming: a buffer split at any place and computed in two calls, the first result being the second
call's seed, gives what one call gives (R125). -/
def Obligations.StreamingEquivalence : Prop :=
  ∀ (single : Vector Word 256) (D : List Byte) (k : Nat) (s : Word),
    crc64 single (D.drop k) (crc64 single (D.take k) s) = crc64 single D s

/-- The fast path, lanes, wide tables, fold and tail, gives the bytewise result for all inputs (R123). -/
def Obligations.FastPathEqualsBytewise : Prop :=
  ∀ (poly : Word) (data : List Byte) (init : Word),
    crc64Structured (buildTables poly) data init = crc64 (buildSingle poly) data init

/-! ### The combiner -/

/-- `mulx8` is the zero step, written out with its one table lookup, and is multiplication by x^8 (R132). -/
def Obligations.MulxEightIsZeroStep : Prop :=
  ∀ (poly v : Word),
    mulx8 poly v = zeroStep (buildSingle poly) v
    ∧ zeroStep (buildSingle poly) v = (v >>> 8) ^^^ lookup (buildSingle poly) (v.setWidth 8)
    ∧ mulx8 poly v = gf2mul poly v (xpow poly 8)

/-- The powers of x (R135): the low ones are single bits, x^64 is `POLY`, and exponents add. -/
def Obligations.XpowLaws : Prop :=
  ∀ poly : Word,
    xpow poly 0 = 0x8000000000000000
    ∧ (∀ e, xpow poly (e + 1) = mulx poly (xpow poly e))
    ∧ (∀ e, e ≤ 63 → ∀ j, j < 64 → (xpow poly e).getLsbD j = decide (j = 63 - e))
    ∧ xpow poly 64 = poly
    ∧ (∀ e1 e2, xpow poly (e1 + e2) = gf2mul poly (xpow poly e1) (xpow poly e2))

/-- The laws of `gf2mul` (R136); none needs the generator to be irreducible. -/
def Obligations.Gf2mulRing : Prop :=
  ∀ (poly a b c : Word),
    gf2mul poly a b = gf2mul poly b a
    ∧ gf2mul poly (gf2mul poly a b) c = gf2mul poly a (gf2mul poly b c)
    ∧ gf2mul poly (a ^^^ b) c = gf2mul poly a c ^^^ gf2mul poly b c
    ∧ gf2mul poly a 0x8000000000000000 = a
    ∧ gf2mul poly a 0 = 0
    ∧ gf2mul poly a 0x4000000000000000 = mulx poly a

/-- The ladder constants (R137). -/
def Obligations.LadderConstants : Prop :=
  ∀ poly : Word,
    (∀ k, ladderConst poly k = xpow poly (8 * 2 ^ k))
    ∧ ladderConst poly 0 = 0x0080000000000000 ∧ ladderConst poly 1 = 0x0000800000000000
    ∧ ladderConst poly 2 = 0x0000000080000000 ∧ ladderConst poly 3 = poly

/-- `n` zero steps are the product with x^(8n), the exponent a natural number that never wraps (R141, R144). -/
def Obligations.MulXNIsProduct : Prop :=
  ∀ (poly v : Word) (n : Nat),
    mulXNIter (buildSingle poly) v n = gf2mul poly v (xpow poly (8 * n))

/-- The laws of `mulXN` (R142). -/
def Obligations.MulXNLaws : Prop :=
  ∀ (poly u v : Word) (n1 n2 : Nat),
    mulXNIter (buildSingle poly) v 0 = v
    ∧ mulXNIter (buildSingle poly) 0 n1 = 0
    ∧ mulXNIter (buildSingle poly) (mulXNIter (buildSingle poly) v n1) n2
        = mulXNIter (buildSingle poly) v (n1 + n2)
    ∧ mulXNIter (buildSingle poly) (u ^^^ v) n1
        = mulXNIter (buildSingle poly) u n1 ^^^ mulXNIter (buildSingle poly) v n1

/-- The ladder gives what `n` zero steps give, for every `v` and every `n` below 2^63 (R143). -/
def Obligations.LadderEqualsIterated : Prop :=
  ∀ (poly v : Word) (n : Nat), n < 2 ^ 63 →
    mulXNLadder poly v n = mulXNIter (buildSingle poly) v n

/-- COMBINE's function on true CRCs is the CRC of the concatenation, for all seeds, equal or different, and
three chunks give it in either grouping (R148). -/
def Obligations.CombineCorrect : Prop :=
  ∀ (poly : Word) (A B C : List Byte) (s1 s2 s3 : Word),
    combineWith (mulXNIter (buildSingle poly)) s1 s2 (crc64 (buildSingle poly) A s2) A.length
        s3 (crc64 (buildSingle poly) B s3) B.length
      = crc64 (buildSingle poly) (A ++ B) s1
    ∧ crc64 (buildSingle poly) (A ++ B) s1
      = crc64 (buildSingle poly) B (crc64 (buildSingle poly) A s1)
    ∧ combineWith (mulXNIter (buildSingle poly)) s1 s1
        (combineWith (mulXNIter (buildSingle poly)) s1 s1 (crc64 (buildSingle poly) A s1) A.length
          s2 (crc64 (buildSingle poly) B s2) B.length) (A.length + B.length)
        s3 (crc64 (buildSingle poly) C s3) C.length
      = crc64 (buildSingle poly) (A ++ B ++ C) s1
    ∧ combineWith (mulXNIter (buildSingle poly)) s1 s1 (crc64 (buildSingle poly) A s1) A.length
        s2 (combineWith (mulXNIter (buildSingle poly)) s2 s2 (crc64 (buildSingle poly) B s2) B.length
          s3 (crc64 (buildSingle poly) C s3) C.length) (B.length + C.length)
      = crc64 (buildSingle poly) (A ++ B ++ C) s1

/-- The corner cases of `combine` (R149): an empty `B`, an empty `A`, equal seeds, a mismatch of seeds over no
bytes, both lengths 0. -/
def Obligations.CombineCorners : Prop :=
  ∀ (poly iAB iA fA iB fB : Word) (lA lB : Nat) (B : List Byte),
    combineWith (mulXNIter (buildSingle poly)) iA iA fA lA iB iB 0 = fA
    ∧ combineWith (mulXNIter (buildSingle poly)) iAB iAB iAB 0 iB
        (crc64 (buildSingle poly) B iB) B.length = crc64 (buildSingle poly) B iAB
    ∧ combineWith (mulXNIter (buildSingle poly)) iA iA fA lA iB fB lB
        = mulXNIter (buildSingle poly) (fA ^^^ iB) lB ^^^ fB
    ∧ combineWith (mulXNIter (buildSingle poly)) iAB iA fA 0 iB fB lB
        = mulXNIter (buildSingle poly) (fA ^^^ iA ^^^ iAB ^^^ iB) lB ^^^ fB
    ∧ combineWith (mulXNIter (buildSingle poly)) iAB iA fA 0 iB fB 0 = fA ^^^ iA ^^^ iAB ^^^ iB ^^^ fB
end

