-- ==== Sys2Proof/Laws/State.lean ====
section
/-! SUPPORT. What every update of the state does to every field, one lemma each, so that no later proof unfolds
a record update. -/

namespace Sys2Proof.Machine

/-! ### clearFlags -/

@[simp] theorem clearFlags_cmd (s : State) : (clearFlags s).cmd = s.cmd := rfl
@[simp] theorem clearFlags_cmdWritten (s : State) : (clearFlags s).cmdWritten = s.cmdWritten := rfl
@[simp] theorem clearFlags_tblReady (s : State) : (clearFlags s).tblReady = s.tblReady := rfl
@[simp] theorem clearFlags_valid (s : State) : (clearFlags s).valid = false := rfl
@[simp] theorem clearFlags_err (s : State) : (clearFlags s).err = false := rfl
@[simp] theorem clearFlags_fatal (s : State) : (clearFlags s).fatal = s.fatal := rfl
@[simp] theorem clearFlags_cause (s : State) : (clearFlags s).cause = Cause.none := rfl
@[simp] theorem clearFlags_result (s : State) : (clearFlags s).result = Config.freeResult s.freeCount := rfl
@[simp] theorem clearFlags_args (s : State) : (clearFlags s).args = s.args := rfl
@[simp] theorem clearFlags_argWritten (s : State) : (clearFlags s).argWritten = s.argWritten := rfl
@[simp] theorem clearFlags_tables (s : State) : (clearFlags s).tables = s.tables := rfl
@[simp] theorem clearFlags_data (s : State) : (clearFlags s).data = s.data := rfl
@[simp] theorem clearFlags_params (s : State) : (clearFlags s).params = s.params := rfl
@[simp] theorem clearFlags_tableBuildOk (s : State) : (clearFlags s).tableBuildOk = s.tableBuildOk := rfl
@[simp] theorem clearFlags_pending (s : State) : (clearFlags s).pending = s.pending := rfl
@[simp] theorem clearFlags_reads (s : State) : (clearFlags s).reads = s.reads := rfl
@[simp] theorem clearFlags_freeCount (s : State) : (clearFlags s).freeCount = s.freeCount + 1 := rfl

/-! ### flagReject -/

@[simp] theorem flagReject_cmd (c : InvalidArg) (s : State) : (flagReject c s).cmd = s.cmd := rfl
@[simp] theorem flagReject_cmdWritten (c : InvalidArg) (s : State) : (flagReject c s).cmdWritten = s.cmdWritten := rfl
@[simp] theorem flagReject_tblReady (c : InvalidArg) (s : State) : (flagReject c s).tblReady = s.tblReady := rfl
@[simp] theorem flagReject_valid (c : InvalidArg) (s : State) : (flagReject c s).valid = false := rfl
@[simp] theorem flagReject_err (c : InvalidArg) (s : State) : (flagReject c s).err = true := rfl
@[simp] theorem flagReject_fatal (c : InvalidArg) (s : State) : (flagReject c s).fatal = s.fatal := rfl
@[simp] theorem flagReject_cause (c : InvalidArg) (s : State) : (flagReject c s).cause = Cause.invalidArgument c := rfl
@[simp] theorem flagReject_result (c : InvalidArg) (s : State) : (flagReject c s).result = s.result := rfl
@[simp] theorem flagReject_args (c : InvalidArg) (s : State) : (flagReject c s).args = s.args := rfl
@[simp] theorem flagReject_argWritten (c : InvalidArg) (s : State) : (flagReject c s).argWritten = s.argWritten := rfl
@[simp] theorem flagReject_tables (c : InvalidArg) (s : State) : (flagReject c s).tables = s.tables := rfl
@[simp] theorem flagReject_data (c : InvalidArg) (s : State) : (flagReject c s).data = s.data := rfl
@[simp] theorem flagReject_params (c : InvalidArg) (s : State) : (flagReject c s).params = s.params := rfl
@[simp] theorem flagReject_tableBuildOk (c : InvalidArg) (s : State) : (flagReject c s).tableBuildOk = s.tableBuildOk := rfl
@[simp] theorem flagReject_pending (c : InvalidArg) (s : State) : (flagReject c s).pending = s.pending := rfl
@[simp] theorem flagReject_reads (c : InvalidArg) (s : State) : (flagReject c s).reads = s.reads := rfl
@[simp] theorem flagReject_freeCount (c : InvalidArg) (s : State) : (flagReject c s).freeCount = s.freeCount := rfl

/-! ### flagFatal -/

@[simp] theorem flagFatal_cmd (s : State) : (flagFatal s).cmd = s.cmd := rfl
@[simp] theorem flagFatal_cmdWritten (s : State) : (flagFatal s).cmdWritten = s.cmdWritten := rfl
@[simp] theorem flagFatal_tblReady (s : State) : (flagFatal s).tblReady = s.tblReady := rfl
@[simp] theorem flagFatal_valid (s : State) : (flagFatal s).valid = false := rfl
@[simp] theorem flagFatal_err (s : State) : (flagFatal s).err = false := rfl
@[simp] theorem flagFatal_fatal (s : State) : (flagFatal s).fatal = true := rfl
@[simp] theorem flagFatal_cause (s : State) : (flagFatal s).cause = Cause.tableBuildFailure := rfl
@[simp] theorem flagFatal_result (s : State) : (flagFatal s).result = s.result := rfl
@[simp] theorem flagFatal_args (s : State) : (flagFatal s).args = s.args := rfl
@[simp] theorem flagFatal_argWritten (s : State) : (flagFatal s).argWritten = s.argWritten := rfl
@[simp] theorem flagFatal_tables (s : State) : (flagFatal s).tables = s.tables := rfl
@[simp] theorem flagFatal_data (s : State) : (flagFatal s).data = s.data := rfl
@[simp] theorem flagFatal_params (s : State) : (flagFatal s).params = s.params := rfl
@[simp] theorem flagFatal_tableBuildOk (s : State) : (flagFatal s).tableBuildOk = s.tableBuildOk := rfl
@[simp] theorem flagFatal_pending (s : State) : (flagFatal s).pending = s.pending := rfl
@[simp] theorem flagFatal_reads (s : State) : (flagFatal s).reads = s.reads := rfl
@[simp] theorem flagFatal_freeCount (s : State) : (flagFatal s).freeCount = s.freeCount := rfl

/-! ### flagResult -/

@[simp] theorem flagResult_cmd (v : Word) (s : State) : (flagResult v s).cmd = s.cmd := rfl
@[simp] theorem flagResult_cmdWritten (v : Word) (s : State) : (flagResult v s).cmdWritten = s.cmdWritten := rfl
@[simp] theorem flagResult_tblReady (v : Word) (s : State) : (flagResult v s).tblReady = s.tblReady := rfl
@[simp] theorem flagResult_valid (v : Word) (s : State) : (flagResult v s).valid = true := rfl
@[simp] theorem flagResult_err (v : Word) (s : State) : (flagResult v s).err = s.err := rfl
@[simp] theorem flagResult_fatal (v : Word) (s : State) : (flagResult v s).fatal = s.fatal := rfl
@[simp] theorem flagResult_cause (v : Word) (s : State) : (flagResult v s).cause = s.cause := rfl
@[simp] theorem flagResult_result (v : Word) (s : State) : (flagResult v s).result = v := rfl
@[simp] theorem flagResult_args (v : Word) (s : State) : (flagResult v s).args = s.args := rfl
@[simp] theorem flagResult_argWritten (v : Word) (s : State) : (flagResult v s).argWritten = s.argWritten := rfl
@[simp] theorem flagResult_tables (v : Word) (s : State) : (flagResult v s).tables = s.tables := rfl
@[simp] theorem flagResult_data (v : Word) (s : State) : (flagResult v s).data = s.data := rfl
@[simp] theorem flagResult_params (v : Word) (s : State) : (flagResult v s).params = s.params := rfl
@[simp] theorem flagResult_tableBuildOk (v : Word) (s : State) : (flagResult v s).tableBuildOk = s.tableBuildOk := rfl
@[simp] theorem flagResult_pending (v : Word) (s : State) : (flagResult v s).pending = s.pending := rfl
@[simp] theorem flagResult_reads (v : Word) (s : State) : (flagResult v s).reads = s.reads := rfl
@[simp] theorem flagResult_freeCount (v : Word) (s : State) : (flagResult v s).freeCount = s.freeCount := rfl

/-! ### raiseInvalid -/

@[simp] theorem raiseInvalid_cmd (c : InvalidArg) (s : State) : (raiseInvalid c s).cmd = s.cmd := rfl
@[simp] theorem raiseInvalid_cmdWritten (c : InvalidArg) (s : State) : (raiseInvalid c s).cmdWritten = s.cmdWritten := rfl
@[simp] theorem raiseInvalid_tblReady (c : InvalidArg) (s : State) : (raiseInvalid c s).tblReady = s.tblReady := rfl
@[simp] theorem raiseInvalid_valid (c : InvalidArg) (s : State) : (raiseInvalid c s).valid = false := rfl
@[simp] theorem raiseInvalid_err (c : InvalidArg) (s : State) : (raiseInvalid c s).err = true := rfl
@[simp] theorem raiseInvalid_fatal (c : InvalidArg) (s : State) : (raiseInvalid c s).fatal = s.fatal := rfl
@[simp] theorem raiseInvalid_cause (c : InvalidArg) (s : State) : (raiseInvalid c s).cause = Cause.invalidArgument c := rfl
@[simp] theorem raiseInvalid_result (c : InvalidArg) (s : State) : (raiseInvalid c s).result = s.result := rfl
@[simp] theorem raiseInvalid_args (c : InvalidArg) (s : State) : (raiseInvalid c s).args = s.args := rfl
@[simp] theorem raiseInvalid_argWritten (c : InvalidArg) (s : State) : (raiseInvalid c s).argWritten = s.argWritten := rfl
@[simp] theorem raiseInvalid_tables (c : InvalidArg) (s : State) : (raiseInvalid c s).tables = s.tables := rfl
@[simp] theorem raiseInvalid_data (c : InvalidArg) (s : State) : (raiseInvalid c s).data = s.data := rfl
@[simp] theorem raiseInvalid_params (c : InvalidArg) (s : State) : (raiseInvalid c s).params = s.params := rfl
@[simp] theorem raiseInvalid_tableBuildOk (c : InvalidArg) (s : State) : (raiseInvalid c s).tableBuildOk = s.tableBuildOk := rfl
@[simp] theorem raiseInvalid_pending (c : InvalidArg) (s : State) : (raiseInvalid c s).pending = s.pending := rfl
@[simp] theorem raiseInvalid_reads (c : InvalidArg) (s : State) : (raiseInvalid c s).reads = s.reads := rfl
@[simp] theorem raiseInvalid_freeCount (c : InvalidArg) (s : State) : (raiseInvalid c s).freeCount = s.freeCount := rfl

/-! ### raiseFatal -/

@[simp] theorem raiseFatal_cmd (s : State) : (raiseFatal s).cmd = s.cmd := rfl
@[simp] theorem raiseFatal_cmdWritten (s : State) : (raiseFatal s).cmdWritten = s.cmdWritten := rfl
@[simp] theorem raiseFatal_tblReady (s : State) : (raiseFatal s).tblReady = s.tblReady := rfl
@[simp] theorem raiseFatal_valid (s : State) : (raiseFatal s).valid = false := rfl
@[simp] theorem raiseFatal_err (s : State) : (raiseFatal s).err = false := rfl
@[simp] theorem raiseFatal_fatal (s : State) : (raiseFatal s).fatal = true := rfl
@[simp] theorem raiseFatal_cause (s : State) : (raiseFatal s).cause = Cause.tableBuildFailure := rfl
@[simp] theorem raiseFatal_result (s : State) : (raiseFatal s).result = s.result := rfl
@[simp] theorem raiseFatal_args (s : State) : (raiseFatal s).args = s.args := rfl
@[simp] theorem raiseFatal_argWritten (s : State) : (raiseFatal s).argWritten = s.argWritten := rfl
@[simp] theorem raiseFatal_tables (s : State) : (raiseFatal s).tables = s.tables := rfl
@[simp] theorem raiseFatal_data (s : State) : (raiseFatal s).data = s.data := rfl
@[simp] theorem raiseFatal_params (s : State) : (raiseFatal s).params = s.params := rfl
@[simp] theorem raiseFatal_tableBuildOk (s : State) : (raiseFatal s).tableBuildOk = s.tableBuildOk := rfl
@[simp] theorem raiseFatal_pending (s : State) : (raiseFatal s).pending = s.pending := rfl
@[simp] theorem raiseFatal_reads (s : State) : (raiseFatal s).reads = s.reads := rfl
@[simp] theorem raiseFatal_freeCount (s : State) : (raiseFatal s).freeCount = s.freeCount := rfl

/-! ### construct -/

@[simp] theorem construct_cmd (s : State) : (construct s).cmd = s.cmd := rfl
@[simp] theorem construct_cmdWritten (s : State) : (construct s).cmdWritten = s.cmdWritten := rfl
@[simp] theorem construct_tblReady (s : State) : (construct s).tblReady = true := rfl
@[simp] theorem construct_valid (s : State) : (construct s).valid = s.valid := rfl
@[simp] theorem construct_err (s : State) : (construct s).err = s.err := rfl
@[simp] theorem construct_fatal (s : State) : (construct s).fatal = s.fatal := rfl
@[simp] theorem construct_cause (s : State) : (construct s).cause = s.cause := rfl
@[simp] theorem construct_result (s : State) : (construct s).result = s.result := rfl
@[simp] theorem construct_args (s : State) : (construct s).args = s.args := rfl
@[simp] theorem construct_argWritten (s : State) : (construct s).argWritten = s.argWritten := rfl
@[simp] theorem construct_tables (s : State) : (construct s).tables = buildTables s.params.poly := rfl
@[simp] theorem construct_data (s : State) : (construct s).data = s.data := rfl
@[simp] theorem construct_params (s : State) : (construct s).params = s.params := rfl
@[simp] theorem construct_tableBuildOk (s : State) : (construct s).tableBuildOk = s.tableBuildOk := rfl
@[simp] theorem construct_pending (s : State) : (construct s).pending = s.pending := rfl
@[simp] theorem construct_reads (s : State) : (construct s).reads = s.reads := rfl
@[simp] theorem construct_freeCount (s : State) : (construct s).freeCount = s.freeCount := rfl

/-! ### openLaunch -/

@[simp] theorem openLaunch_cmd (w : Word) (s : State) : (openLaunch w s).cmd = w := rfl
@[simp] theorem openLaunch_cmdWritten (w : Word) (s : State) : (openLaunch w s).cmdWritten = true := rfl
@[simp] theorem openLaunch_tblReady (w : Word) (s : State) : (openLaunch w s).tblReady = s.tblReady := rfl
@[simp] theorem openLaunch_valid (w : Word) (s : State) : (openLaunch w s).valid = false := rfl
@[simp] theorem openLaunch_err (w : Word) (s : State) : (openLaunch w s).err = false := rfl
@[simp] theorem openLaunch_fatal (w : Word) (s : State) : (openLaunch w s).fatal = s.fatal := rfl
@[simp] theorem openLaunch_cause (w : Word) (s : State) : (openLaunch w s).cause = Cause.none := rfl
@[simp] theorem openLaunch_result (w : Word) (s : State) : (openLaunch w s).result = Config.freeResult s.freeCount := rfl
@[simp] theorem openLaunch_args (w : Word) (s : State) : (openLaunch w s).args = s.args := rfl
@[simp] theorem openLaunch_argWritten (w : Word) (s : State) : (openLaunch w s).argWritten = s.argWritten := rfl
@[simp] theorem openLaunch_tables (w : Word) (s : State) : (openLaunch w s).tables = s.tables := rfl
@[simp] theorem openLaunch_data (w : Word) (s : State) : (openLaunch w s).data = s.data := rfl
@[simp] theorem openLaunch_params (w : Word) (s : State) : (openLaunch w s).params = s.params := rfl
@[simp] theorem openLaunch_tableBuildOk (w : Word) (s : State) : (openLaunch w s).tableBuildOk = s.tableBuildOk := rfl
@[simp] theorem openLaunch_pending (w : Word) (s : State) : (openLaunch w s).pending = s.pending := rfl
@[simp] theorem openLaunch_reads (w : Word) (s : State) : (openLaunch w s).reads = s.reads := rfl
@[simp] theorem openLaunch_freeCount (w : Word) (s : State) : (openLaunch w s).freeCount = s.freeCount + 1 := rfl

/-! ### bindData -/

@[simp] theorem bindData_cmd (bytes : List Byte) (s : State) : (bindData bytes s).cmd = s.cmd := rfl
@[simp] theorem bindData_cmdWritten (bytes : List Byte) (s : State) : (bindData bytes s).cmdWritten = s.cmdWritten := rfl
@[simp] theorem bindData_tblReady (bytes : List Byte) (s : State) : (bindData bytes s).tblReady = s.tblReady := rfl
@[simp] theorem bindData_valid (bytes : List Byte) (s : State) : (bindData bytes s).valid = s.valid := rfl
@[simp] theorem bindData_err (bytes : List Byte) (s : State) : (bindData bytes s).err = s.err := rfl
@[simp] theorem bindData_fatal (bytes : List Byte) (s : State) : (bindData bytes s).fatal = s.fatal := rfl
@[simp] theorem bindData_cause (bytes : List Byte) (s : State) : (bindData bytes s).cause = s.cause := rfl
@[simp] theorem bindData_result (bytes : List Byte) (s : State) : (bindData bytes s).result = s.result := rfl
@[simp] theorem bindData_args (bytes : List Byte) (s : State) : (bindData bytes s).args = s.args := rfl
@[simp] theorem bindData_argWritten (bytes : List Byte) (s : State) : (bindData bytes s).argWritten = s.argWritten := rfl
@[simp] theorem bindData_tables (bytes : List Byte) (s : State) : (bindData bytes s).tables = s.tables := rfl
@[simp] theorem bindData_data (bytes : List Byte) (s : State) : (bindData bytes s).data = cellsFrom 0 bytes := rfl
@[simp] theorem bindData_params (bytes : List Byte) (s : State) : (bindData bytes s).params = s.params := rfl
@[simp] theorem bindData_tableBuildOk (bytes : List Byte) (s : State) : (bindData bytes s).tableBuildOk = s.tableBuildOk := rfl
@[simp] theorem bindData_pending (bytes : List Byte) (s : State) : (bindData bytes s).pending = s.pending := rfl
@[simp] theorem bindData_reads (bytes : List Byte) (s : State) : (bindData bytes s).reads = s.reads := rfl
@[simp] theorem bindData_freeCount (bytes : List Byte) (s : State) : (bindData bytes s).freeCount = s.freeCount := rfl

/-! ### writeArg -/

@[simp] theorem writeArg_cmd (m : Nat) (v : Word) (s : State) : (writeArg m v s).cmd = s.cmd := rfl
@[simp] theorem writeArg_cmdWritten (m : Nat) (v : Word) (s : State) : (writeArg m v s).cmdWritten = s.cmdWritten := rfl
@[simp] theorem writeArg_tblReady (m : Nat) (v : Word) (s : State) : (writeArg m v s).tblReady = s.tblReady := rfl
@[simp] theorem writeArg_valid (m : Nat) (v : Word) (s : State) : (writeArg m v s).valid = s.valid := rfl
@[simp] theorem writeArg_err (m : Nat) (v : Word) (s : State) : (writeArg m v s).err = s.err := rfl
@[simp] theorem writeArg_fatal (m : Nat) (v : Word) (s : State) : (writeArg m v s).fatal = s.fatal := rfl
@[simp] theorem writeArg_cause (m : Nat) (v : Word) (s : State) : (writeArg m v s).cause = s.cause := rfl
@[simp] theorem writeArg_result (m : Nat) (v : Word) (s : State) : (writeArg m v s).result = s.result := rfl
@[simp] theorem writeArg_args (m : Nat) (v : Word) (s : State) : (writeArg m v s).args = s.args.setIfInBounds m v := rfl
@[simp] theorem writeArg_argWritten (m : Nat) (v : Word) (s : State) : (writeArg m v s).argWritten = s.argWritten.setIfInBounds m true := rfl
@[simp] theorem writeArg_tables (m : Nat) (v : Word) (s : State) : (writeArg m v s).tables = s.tables := rfl
@[simp] theorem writeArg_data (m : Nat) (v : Word) (s : State) : (writeArg m v s).data = s.data := rfl
@[simp] theorem writeArg_params (m : Nat) (v : Word) (s : State) : (writeArg m v s).params = s.params := rfl
@[simp] theorem writeArg_tableBuildOk (m : Nat) (v : Word) (s : State) : (writeArg m v s).tableBuildOk = s.tableBuildOk := rfl
@[simp] theorem writeArg_pending (m : Nat) (v : Word) (s : State) : (writeArg m v s).pending = s.pending := rfl
@[simp] theorem writeArg_reads (m : Nat) (v : Word) (s : State) : (writeArg m v s).reads = s.reads := rfl
@[simp] theorem writeArg_freeCount (m : Nat) (v : Word) (s : State) : (writeArg m v s).freeCount = s.freeCount := rfl

/-! ### noteRead -/

@[simp] theorem noteRead_cmd (v : Word) (s : State) : (noteRead v s).cmd = s.cmd := rfl
@[simp] theorem noteRead_cmdWritten (v : Word) (s : State) : (noteRead v s).cmdWritten = s.cmdWritten := rfl
@[simp] theorem noteRead_tblReady (v : Word) (s : State) : (noteRead v s).tblReady = s.tblReady := rfl
@[simp] theorem noteRead_valid (v : Word) (s : State) : (noteRead v s).valid = s.valid := rfl
@[simp] theorem noteRead_err (v : Word) (s : State) : (noteRead v s).err = s.err := rfl
@[simp] theorem noteRead_fatal (v : Word) (s : State) : (noteRead v s).fatal = s.fatal := rfl
@[simp] theorem noteRead_cause (v : Word) (s : State) : (noteRead v s).cause = s.cause := rfl
@[simp] theorem noteRead_result (v : Word) (s : State) : (noteRead v s).result = s.result := rfl
@[simp] theorem noteRead_args (v : Word) (s : State) : (noteRead v s).args = s.args := rfl
@[simp] theorem noteRead_argWritten (v : Word) (s : State) : (noteRead v s).argWritten = s.argWritten := rfl
@[simp] theorem noteRead_tables (v : Word) (s : State) : (noteRead v s).tables = s.tables := rfl
@[simp] theorem noteRead_data (v : Word) (s : State) : (noteRead v s).data = s.data := rfl
@[simp] theorem noteRead_params (v : Word) (s : State) : (noteRead v s).params = s.params := rfl
@[simp] theorem noteRead_tableBuildOk (v : Word) (s : State) : (noteRead v s).tableBuildOk = s.tableBuildOk := rfl
@[simp] theorem noteRead_pending (v : Word) (s : State) : (noteRead v s).pending = s.pending := rfl
@[simp] theorem noteRead_reads (v : Word) (s : State) : (noteRead v s).reads = s.reads ++ [v] := rfl
@[simp] theorem noteRead_freeCount (v : Word) (s : State) : (noteRead v s).freeCount = s.freeCount := rfl

/-! ### clearBlock -/

@[simp] theorem clearBlock_cmd (ok : Bool) (s : State) : (clearBlock ok s).cmd = 0 := rfl
@[simp] theorem clearBlock_cmdWritten (ok : Bool) (s : State) : (clearBlock ok s).cmdWritten = false := rfl
@[simp] theorem clearBlock_tblReady (ok : Bool) (s : State) : (clearBlock ok s).tblReady = false := rfl
@[simp] theorem clearBlock_valid (ok : Bool) (s : State) : (clearBlock ok s).valid = false := rfl
@[simp] theorem clearBlock_err (ok : Bool) (s : State) : (clearBlock ok s).err = false := rfl
@[simp] theorem clearBlock_fatal (ok : Bool) (s : State) : (clearBlock ok s).fatal = false := rfl
@[simp] theorem clearBlock_cause (ok : Bool) (s : State) : (clearBlock ok s).cause = Cause.none := rfl
@[simp] theorem clearBlock_result (ok : Bool) (s : State) : (clearBlock ok s).result = 0 := rfl
@[simp] theorem clearBlock_args (ok : Bool) (s : State) : (clearBlock ok s).args = Vector.replicate 7 0 := rfl
@[simp] theorem clearBlock_argWritten (ok : Bool) (s : State) : (clearBlock ok s).argWritten = Vector.replicate 7 false := rfl
@[simp] theorem clearBlock_tables (ok : Bool) (s : State) : (clearBlock ok s).tables = TableSet.unbuilt := rfl
@[simp] theorem clearBlock_data (ok : Bool) (s : State) : (clearBlock ok s).data = [] := rfl
@[simp] theorem clearBlock_params (ok : Bool) (s : State) : (clearBlock ok s).params = s.params := rfl
@[simp] theorem clearBlock_tableBuildOk (ok : Bool) (s : State) : (clearBlock ok s).tableBuildOk = ok := rfl
@[simp] theorem clearBlock_pending (ok : Bool) (s : State) : (clearBlock ok s).pending = s.pending := rfl
@[simp] theorem clearBlock_reads (ok : Bool) (s : State) : (clearBlock ok s).reads = s.reads := rfl
@[simp] theorem clearBlock_freeCount (ok : Bool) (s : State) : (clearBlock ok s).freeCount = s.freeCount := rfl

/-! ### popPending -/

@[simp] theorem popPending_cmd (rest : List HostTxn) (s : State) : (popPending rest s).cmd = s.cmd := rfl
@[simp] theorem popPending_cmdWritten (rest : List HostTxn) (s : State) : (popPending rest s).cmdWritten = s.cmdWritten := rfl
@[simp] theorem popPending_tblReady (rest : List HostTxn) (s : State) : (popPending rest s).tblReady = s.tblReady := rfl
@[simp] theorem popPending_valid (rest : List HostTxn) (s : State) : (popPending rest s).valid = s.valid := rfl
@[simp] theorem popPending_err (rest : List HostTxn) (s : State) : (popPending rest s).err = s.err := rfl
@[simp] theorem popPending_fatal (rest : List HostTxn) (s : State) : (popPending rest s).fatal = s.fatal := rfl
@[simp] theorem popPending_cause (rest : List HostTxn) (s : State) : (popPending rest s).cause = s.cause := rfl
@[simp] theorem popPending_result (rest : List HostTxn) (s : State) : (popPending rest s).result = s.result := rfl
@[simp] theorem popPending_args (rest : List HostTxn) (s : State) : (popPending rest s).args = s.args := rfl
@[simp] theorem popPending_argWritten (rest : List HostTxn) (s : State) : (popPending rest s).argWritten = s.argWritten := rfl
@[simp] theorem popPending_tables (rest : List HostTxn) (s : State) : (popPending rest s).tables = s.tables := rfl
@[simp] theorem popPending_data (rest : List HostTxn) (s : State) : (popPending rest s).data = s.data := rfl
@[simp] theorem popPending_params (rest : List HostTxn) (s : State) : (popPending rest s).params = s.params := rfl
@[simp] theorem popPending_tableBuildOk (rest : List HostTxn) (s : State) : (popPending rest s).tableBuildOk = s.tableBuildOk := rfl
@[simp] theorem popPending_pending (rest : List HostTxn) (s : State) : (popPending rest s).pending = rest := rfl
@[simp] theorem popPending_reads (rest : List HostTxn) (s : State) : (popPending rest s).reads = s.reads := rfl
@[simp] theorem popPending_freeCount (rest : List HostTxn) (s : State) : (popPending rest s).freeCount = s.freeCount := rfl

/-! ### pushPending -/

@[simp] theorem pushPending_cmd (t : HostTxn) (s : State) : (pushPending t s).cmd = s.cmd := rfl
@[simp] theorem pushPending_cmdWritten (t : HostTxn) (s : State) : (pushPending t s).cmdWritten = s.cmdWritten := rfl
@[simp] theorem pushPending_tblReady (t : HostTxn) (s : State) : (pushPending t s).tblReady = s.tblReady := rfl
@[simp] theorem pushPending_valid (t : HostTxn) (s : State) : (pushPending t s).valid = s.valid := rfl
@[simp] theorem pushPending_err (t : HostTxn) (s : State) : (pushPending t s).err = s.err := rfl
@[simp] theorem pushPending_fatal (t : HostTxn) (s : State) : (pushPending t s).fatal = s.fatal := rfl
@[simp] theorem pushPending_cause (t : HostTxn) (s : State) : (pushPending t s).cause = s.cause := rfl
@[simp] theorem pushPending_result (t : HostTxn) (s : State) : (pushPending t s).result = s.result := rfl
@[simp] theorem pushPending_args (t : HostTxn) (s : State) : (pushPending t s).args = s.args := rfl
@[simp] theorem pushPending_argWritten (t : HostTxn) (s : State) : (pushPending t s).argWritten = s.argWritten := rfl
@[simp] theorem pushPending_tables (t : HostTxn) (s : State) : (pushPending t s).tables = s.tables := rfl
@[simp] theorem pushPending_data (t : HostTxn) (s : State) : (pushPending t s).data = s.data := rfl
@[simp] theorem pushPending_params (t : HostTxn) (s : State) : (pushPending t s).params = s.params := rfl
@[simp] theorem pushPending_tableBuildOk (t : HostTxn) (s : State) : (pushPending t s).tableBuildOk = s.tableBuildOk := rfl
@[simp] theorem pushPending_pending (t : HostTxn) (s : State) : (pushPending t s).pending = t :: s.pending := rfl
@[simp] theorem pushPending_reads (t : HostTxn) (s : State) : (pushPending t s).reads = s.reads := rfl
@[simp] theorem pushPending_freeCount (t : HostTxn) (s : State) : (pushPending t s).freeCount = s.freeCount := rfl

end Sys2Proof.Machine
end

