-- ==== Sys2Proof/Laws/Memory.lean ====
section
/-! SUPPORT. The data buffer: every operation keeps the canonical form, and what a read of it gives. -/

namespace Sys2Proof.Machine

theorem cellsFrom_wf (k : Nat) (bytes : List Byte) : Memory.wfFrom k (cellsFrom k bytes) = true := by
  induction bytes generalizing k with
  | nil => rfl
  | cons b bs ih => simp [cellsFrom, Memory.wfFrom, ih]

/-- `bind` leaves the canonical form. It is the only operation that writes `DATA`. -/
theorem bindData_wf (bytes : List Byte) (s : State) : Memory.wf (bindData bytes s).data = true :=
  cellsFrom_wf 0 bytes

/-- Nothing is bound after a reset. -/
theorem clearBlock_wf (ok : Bool) (s : State) : Memory.wf (clearBlock ok s).data = true := rfl

theorem reset_wf : Memory.wf State.reset.data = true := rfl

@[simp] theorem cellsFrom_length (k : Nat) (bytes : List Byte) : (cellsFrom k bytes).length = bytes.length := by
  induction bytes generalizing k with
  | nil => rfl
  | cons b bs ih => simp [cellsFrom, ih]

@[simp] theorem cellsFrom_map_snd (k : Nat) (bytes : List Byte) :
    (cellsFrom k bytes).map Prod.snd = bytes := by
  induction bytes generalizing k with
  | nil => rfl
  | cons b bs ih => simp [cellsFrom, ih]

/-- A list in canonical form is the cells of its bytes. -/
theorem eq_cellsFrom_of_wfFrom {k : Nat} {m : Memory} (h : Memory.wfFrom k m = true) :
    m = cellsFrom k (m.map Prod.snd) := by
  induction m generalizing k with
  | nil => rfl
  | cons c m ih =>
    obtain ⟨a, b⟩ := c
    simp only [Memory.wfFrom, Bool.and_eq_true, beq_iff_eq] at h
    obtain ⟨rfl, h⟩ := h
    simpa [cellsFrom] using ih h

/-- The byte read at an index of a canonical list is the byte at that place of the sequence. -/
theorem read_cellsFrom (k a : Nat) (bytes : List Byte) (h : k ≤ a) :
    Memory.read (cellsFrom k bytes) a = bytes[a - k]? := by
  induction bytes generalizing k with
  | nil => simp [cellsFrom, Memory.read]
  | cons b bs ih =>
    by_cases hk : k = a
    · simp [cellsFrom, Memory.read, hk]
    · obtain ⟨d, hd⟩ : ∃ d, a - k = d + 1 := ⟨a - k - 1, by omega⟩
      have hd' : a - (k + 1) = d := by omega
      simp [cellsFrom, Memory.read, hk, ih (k + 1) (by omega), hd, hd']

/-- Reading `n` bytes from index `a` of a canonical list that has them gives that stretch of the sequence. -/
theorem readBytes_cellsFrom (bytes : List Byte) (a n : Nat) (h : a + n ≤ bytes.length) :
    Memory.readBytes (cellsFrom 0 bytes) a n = some ((bytes.drop a).take n) := by
  induction n generalizing a with
  | zero => simp [Memory.readBytes]
  | succ n ih =>
    have ha : a < bytes.length := by omega
    have hd : (bytes.drop a).take (n + 1) = bytes[a] :: (bytes.drop (a + 1)).take n := by
      rw [List.drop_eq_getElem_cons ha, List.take_succ_cons]
    rw [Memory.readBytes, read_cellsFrom 0 a bytes (Nat.zero_le a), ih (a + 1) (by omega), hd]
    simp [ha]

/-- Reading `DATA[0 : n]` of a canonical buffer that holds `n` bytes (R51). -/
theorem readBytes_of_wf {m : Memory} {n : Nat} (h : Memory.wf m = true) (hn : n ≤ Memory.avail m) :
    Memory.readBytes m 0 n = some ((m.map Prod.snd).take n) := by
  have hm := eq_cellsFrom_of_wfFrom h
  have hl : 0 + n ≤ (m.map Prod.snd).length := by simpa [Memory.avail] using hn
  rw [hm, readBytes_cellsFrom _ 0 n hl]
  simp

end Sys2Proof.Machine
end

