-- ==== Sys2Proof/Laws/Ops.lean ====
section
/-! SUPPORT. For each shared operation, what it can do, said once. -/

namespace Sys2Proof.Machine

/-! ### ensureTables -/

theorem ensureTables_ready {s : State} (h : s.tblReady = true) : ensureTables s = s := by
  simp [ensureTables, h]

theorem ensureTables_builds {s : State} (h : s.tblReady = false) (hok : s.tableBuildOk = true) :
    ensureTables s = construct s := by
  simp [ensureTables, h, hok]

theorem ensureTables_fails {s : State} (h : s.tblReady = false) (hok : s.tableBuildOk = false) :
    ensureTables s = raiseFatal s := by
  simp [ensureTables, h, hok]

/-- The three things `ensureTables` can do. -/
theorem ensureTables_cases (s : State) :
    (s.tblReady = true ∧ ensureTables s = s)
    ∨ (s.tblReady = false ∧ s.tableBuildOk = true ∧ ensureTables s = construct s)
    ∨ (s.tblReady = false ∧ s.tableBuildOk = false ∧ ensureTables s = raiseFatal s) := by
  cases h : s.tblReady <;> cases hok : s.tableBuildOk <;> simp [ensureTables, h, hok]

/-! ### The launch sequence -/

theorem launch_dead {w : Word} {check : State → Option InvalidArg}
    {work : State → Host.Outcome State Fault Refusal} {s : State} (h : s.fatal = true) :
    launch w check work s = .next s := by
  simp [launch, h]

theorem launch_rejects {w : Word} {check : State → Option InvalidArg}
    {work : State → Host.Outcome State Fault Refusal} {s : State} {c : InvalidArg}
    (h : s.fatal = false) (hc : check (openLaunch w s) = some c) :
    launch w check work s = .next (raiseInvalid c (openLaunch w s)) := by
  simp [launch, h, hc]

theorem launch_dies {w : Word} {check : State → Option InvalidArg}
    {work : State → Host.Outcome State Fault Refusal} {s : State}
    (h : s.fatal = false) (hc : check (openLaunch w s) = none)
    (hr : s.tblReady = false) (hok : s.tableBuildOk = false) :
    launch w check work s = .next (raiseFatal (openLaunch w s)) := by
  have he : ensureTables (openLaunch w s) = raiseFatal (openLaunch w s) :=
    ensureTables_fails (by simpa using hr) (by simpa using hok)
  simp [launch, h, hc, he]

theorem launch_works {w : Word} {check : State → Option InvalidArg}
    {work : State → Host.Outcome State Fault Refusal} {s : State}
    (h : s.fatal = false) (hc : check (openLaunch w s) = none)
    (hr : s.tblReady = true ∨ s.tableBuildOk = true) :
    launch w check work s = work (ensureTables (openLaunch w s)) := by
  have hf : (ensureTables (openLaunch w s)).fatal = false := by
    rcases ensureTables_cases (openLaunch w s) with ⟨-, he⟩ | ⟨-, -, he⟩ | ⟨h1, h2, -⟩
    · rw [he]; simpa using h
    · rw [he]; simpa using h
    · simp_all
  simp [launch, h, hc, hf]

/-- Everything a launch can do (R169): the dead block ignores it, the check rejects it, construction kills
the block, or the command does its work. -/
theorem launch_cases (w : Word) (check : State → Option InvalidArg)
    (work : State → Host.Outcome State Fault Refusal) (s : State) :
    (s.fatal = true ∧ launch w check work s = .next s)
    ∨ (s.fatal = false ∧ ∃ c, check (openLaunch w s) = some c ∧
        launch w check work s = .next (raiseInvalid c (openLaunch w s)))
    ∨ (s.fatal = false ∧ check (openLaunch w s) = none ∧ s.tblReady = false ∧ s.tableBuildOk = false ∧
        launch w check work s = .next (raiseFatal (openLaunch w s)))
    ∨ (s.fatal = false ∧ check (openLaunch w s) = none ∧ (s.tblReady = true ∨ s.tableBuildOk = true) ∧
        launch w check work s = work (ensureTables (openLaunch w s))) := by
  cases hf : s.fatal with
  | true => exact .inl ⟨rfl, launch_dead hf⟩
  | false =>
    cases hc : check (openLaunch w s) with
    | some c => exact .inr (.inl ⟨rfl, c, rfl, launch_rejects hf hc⟩)
    | none =>
      cases hr : s.tblReady with
      | true => exact .inr (.inr (.inr ⟨rfl, rfl, .inl rfl, launch_works hf hc (.inl hr)⟩))
      | false =>
        cases hok : s.tableBuildOk with
        | true => exact .inr (.inr (.inr ⟨rfl, rfl, .inr rfl, launch_works hf hc (.inr hok)⟩))
        | false => exact .inr (.inr (.inl ⟨rfl, rfl, rfl, rfl, launch_dies hf hc hr hok⟩))

/-! ### What a command's work can do -/

/-- COMPUTE's work: it completes with the CRC of the bytes read, or `DATA` has a gap. -/
theorem workCompute_cases (s : State) :
    (∃ bytes, Memory.readBytes s.data 0 (lengthValue s.args[1]) = some bytes ∧
      workCompute s = .next (flagResult (crc64 s.tables.single bytes s.args[0]) s))
    ∨ (Memory.readBytes s.data 0 (lengthValue s.args[1]) = none ∧
      workCompute s = .fault .dataOutOfRange) := by
  cases h : Memory.readBytes s.data 0 (lengthValue s.args[1]) with
  | none => exact .inr ⟨rfl, by simp [workCompute, h]⟩
  | some bytes => exact .inl ⟨bytes, rfl, by simp [workCompute, h, finish]⟩

/-- Every command is one launch of its own word, and what its work can answer: TBL_BUILD has no result, COMPUTE
may meet a gap in `DATA`, every other command ends with a result. -/
theorem exec_launch (i : Instr) : ∃ check work,
    (∀ s, exec i s = launch (encode i) check work s) ∧
    ((i = .tblBuild ∧ ∀ t, work t = .next t)
      ∨ (i ≠ .tblBuild ∧ ∀ t, (∃ v, work t = .next (flagResult v t))
          ∨ (i = .compute ∧ work t = .fault .dataOutOfRange))) := by
  cases i with
  | compute =>
    refine ⟨checkCompute, workCompute, fun _ => rfl, .inr ⟨by decide, fun t => ?_⟩⟩
    rcases workCompute_cases t with ⟨b, -, h⟩ | ⟨-, h⟩
    · exact .inl ⟨_, h⟩
    · exact .inr ⟨rfl, h⟩
  | combine =>
    exact ⟨checkCombine, workCombine, fun _ => rfl, .inr ⟨by decide, fun _ => .inl ⟨_, rfl⟩⟩⟩
  | mulxn =>
    exact ⟨checkMulxn, workMulxn, fun _ => rfl, .inr ⟨by decide, fun _ => .inl ⟨_, rfl⟩⟩⟩
  | gf2mul =>
    exact ⟨(fun _ => none), workGf2mul, fun _ => rfl, .inr ⟨by decide, fun _ => .inl ⟨_, rfl⟩⟩⟩
  | tblSingle =>
    exact ⟨checkTblSingle, workTblSingle, fun _ => rfl, .inr ⟨by decide, fun _ => .inl ⟨_, rfl⟩⟩⟩
  | tblWide =>
    exact ⟨checkTblWide, workTblWide, fun _ => rfl, .inr ⟨by decide, fun _ => .inl ⟨_, rfl⟩⟩⟩
  | tblBuild =>
    exact ⟨(fun _ => none), workTblBuild, fun _ => rfl, .inl ⟨rfl, fun _ => rfl⟩⟩

/-- Everything `exec` can answer: the state of a dead block, a reject, a death, TBL_BUILD's end, a result, or
the fault of a `DATA` with a gap. -/
theorem exec_cases (i : Instr) (s : State) :
    (s.fatal = true ∧ exec i s = .next s)
    ∨ (s.fatal = false ∧ ∃ c, exec i s = .next (raiseInvalid c (openLaunch (encode i) s)))
    ∨ (s.fatal = false ∧ s.tblReady = false ∧ s.tableBuildOk = false ∧
        exec i s = .next (raiseFatal (openLaunch (encode i) s)))
    ∨ (s.fatal = false ∧ (s.tblReady = true ∨ s.tableBuildOk = true) ∧ i = .tblBuild ∧
        exec i s = .next (ensureTables (openLaunch (encode i) s)))
    ∨ (s.fatal = false ∧ (s.tblReady = true ∨ s.tableBuildOk = true) ∧ i ≠ .tblBuild ∧
        ∃ v, exec i s = .next (flagResult v (ensureTables (openLaunch (encode i) s))))
    ∨ (s.fatal = false ∧ i = .compute ∧ exec i s = .fault .dataOutOfRange) := by
  obtain ⟨check, work, he, hw⟩ := exec_launch i
  rw [he s]
  rcases launch_cases (encode i) check work s with
    ⟨h, hl⟩ | ⟨h, c, -, hl⟩ | ⟨h, -, h1, h2, hl⟩ | ⟨h, -, hr, hl⟩
  · exact .inl ⟨h, hl⟩
  · exact .inr (.inl ⟨h, c, hl⟩)
  · exact .inr (.inr (.inl ⟨h, h1, h2, hl⟩))
  · rcases hw with ⟨hi, hw⟩ | ⟨hi, hw⟩
    · exact .inr (.inr (.inr (.inl ⟨h, hr, hi, hl.trans (hw _)⟩)))
    · rcases hw (ensureTables (openLaunch (encode i) s)) with ⟨v, hv⟩ | ⟨hc, hv⟩
      · exact .inr (.inr (.inr (.inr (.inl ⟨h, hr, hi, v, hl.trans hv⟩))))
      · exact .inr (.inr (.inr (.inr (.inr ⟨h, hc, hl.trans hv⟩))))

/-! ### Reset -/

theorem resetBlock_lazy {s : State} (ok : Bool) (h : s.params.tableBuildAtReset = false) :
    resetBlock ok s = clearBlock ok s := by
  simp [resetBlock, h]

theorem resetBlock_eager {s : State} (h : s.params.tableBuildAtReset = true) :
    resetBlock true s = construct (clearBlock true s) := by
  simp [resetBlock, h, ensureTables]

theorem resetBlock_eager_fails {s : State} (h : s.params.tableBuildAtReset = true) :
    resetBlock false s = raiseFatal (clearBlock false s) := by
  simp [resetBlock, h, ensureTables]

/-- The three things `resetBlock` can do (R182). -/
theorem resetBlock_cases (ok : Bool) (s : State) :
    (s.params.tableBuildAtReset = false ∧ resetBlock ok s = clearBlock ok s)
    ∨ (s.params.tableBuildAtReset = true ∧ ok = true ∧ resetBlock ok s = construct (clearBlock ok s))
    ∨ (s.params.tableBuildAtReset = true ∧ ok = false ∧ resetBlock ok s = raiseFatal (clearBlock ok s)) := by
  cases h : s.params.tableBuildAtReset with
  | false => exact .inl ⟨rfl, resetBlock_lazy ok h⟩
  | true =>
    cases ok with
    | true => exact .inr (.inl ⟨rfl, rfl, resetBlock_eager h⟩)
    | false => exact .inr (.inr ⟨rfl, rfl, resetBlock_eager_fails h⟩)

/-! ### The step -/

theorem step_idle {s : State} (h : s.pending = []) : step s = .next s := by
  simp [step, stepHost, h]

theorem step_pending {s : State} {t : HostTxn} {rest : List HostTxn} (h : s.pending = t :: rest) :
    step s = transact t (popPending rest s) := by
  simp [step, stepHost, h]

end Sys2Proof.Machine
end

