-- ==== Sys2Proof/Laws/PerInstr.lean ====
section
/-! SUPPORT. One lemma per command for the family Encoding: the command's word decodes to the command. -/

namespace Sys2Proof.Laws.Encoding

/-- The command is well-formed and the decoder reads its word back as the command (R72, R74). -/
def Statement (i : Instr) : Prop := i.wf = true ∧ decode (encode i) = .ok i

theorem compute : Statement .compute := ⟨rfl, rfl⟩
theorem combine : Statement .combine := ⟨rfl, rfl⟩
theorem mulxn : Statement .mulxn := ⟨rfl, rfl⟩
theorem gf2mul : Statement .gf2mul := ⟨rfl, rfl⟩
theorem tblSingle : Statement .tblSingle := ⟨rfl, rfl⟩
theorem tblWide : Statement .tblWide := ⟨rfl, rfl⟩
theorem tblBuild : Statement .tblBuild := ⟨rfl, rfl⟩

end Sys2Proof.Laws.Encoding
end

