-- ==== Sys2Proof/Laws/Tables.lean ====
section
/-! SUPPORT. The table functions: what each entry is, and the small laws of `mulx`. -/

namespace Sys2Proof.Machine

theorem entriesFrom_getElem {α : Type} (f : Nat → α) (n k i : Nat) (h : i < (entriesFrom f n k).length) :
    (entriesFrom f n k)[i] = f (k + i) := by
  induction n generalizing k i with
  | zero => simp [entriesFrom] at h
  | succ n ih =>
    cases i with
    | zero => simp [entriesFrom]
    | succ i =>
      have := ih (k + 1) i (by simpa [entriesFrom] using h)
      simpa [entriesFrom, Nat.add_assoc, Nat.add_comm 1 i] using this

/-- The entry of a table built from a function. -/
@[simp] theorem tabulate_getElem {α : Type} (n : Nat) (f : Nat → α) (i : Nat) (h : i < n) :
    (tabulate n f)[i] = f i := by
  have := entriesFrom_getElem f n 0 i (by simpa [entriesFrom_length] using h)
  simpa [tabulate] using this

/-- The entry of `single` at a byte (R91). -/
@[simp] theorem lookup_buildSingle (poly : Word) (b : Byte) :
    lookup (buildSingle poly) b = singleEntry poly b.toNat := by
  simp [lookup, buildSingle]

/-- The entry of `wide` at a tap and a byte (R94). -/
@[simp] theorem wideLookup_buildWide (single : Vector Word 256) (k : BitVec 3) (b : Byte) :
    wideLookup (buildWide single) k b = adv single (lookup single b) (24 + k.toNat) := by
  simp [wideLookup, buildWide, lookup, wideEntry]

/-- `mulx` is linear over XOR (R131). -/
theorem mulx_xor (poly u v : Word) : mulx poly (u ^^^ v) = mulx poly u ^^^ mulx poly v := by
  unfold mulx
  rw [BitVec.ushiftRight_xor_distrib, BitVec.getLsbD_xor]
  have hcancel : ∀ a b : Word, a ^^^ b = a ^^^ poly ^^^ (b ^^^ poly) := fun a b => by
    rw [BitVec.xor_comm b poly, ← BitVec.xor_assoc, BitVec.xor_assoc a poly poly]
    simp
  cases u.getLsbD 0 <;> cases v.getLsbD 0
  · simp
  · simp [BitVec.xor_assoc]
  · simp only [Bool.xor_false, if_true, Bool.false_eq_true, if_false]
    ac_rfl
  · simpa using hcancel (u >>> 1) (v >>> 1)

@[simp] theorem mulx_zero (poly : Word) : mulx poly 0#64 = 0#64 := by simp [mulx]

theorem mulxIter_xor (poly : Word) (k : Nat) (u v : Word) :
    mulxIter poly k (u ^^^ v) = mulxIter poly k u ^^^ mulxIter poly k v := by
  induction k generalizing u v with
  | zero => rfl
  | succ k ih => simp [mulxIter, mulx_xor, ih]

@[simp] theorem mulxIter_zero (poly : Word) (k : Nat) : mulxIter poly k 0#64 = 0#64 := by
  induction k with
  | zero => rfl
  | succ k ih => simp [mulxIter, ih]

end Sys2Proof.Machine
end

