-- ==== Sys2Proof/Tests/Slice0.lean ====
section
/-! SUPPORT. Tests of one step each, their expected values taken from spec/ (the file and part are named at each),
and for every statement with hypotheses a witness that meets them all. -/

namespace Sys2Proof.Tests

open Sys2Proof Sys2Proof.Machine Sys2Proof.Safety

/-! ### Helpers -/

/-- The next state, if there is one. -/
def nextOf (o : Host.Outcome State Fault Refusal) : Option State :=
  match o with
  | .next s => some s
  | .fault _ => none
  | .refused _ => none

/-- `RESULT` and `STATUS` of the next state. -/
def seen (o : Host.Outcome State Fault Refusal) : Option (Word × Word) :=
  (nextOf o).map fun s => (s.result, statusWord s)

/-- `STATUS` of the next state. -/
def seenStatus (o : Host.Outcome State Fault Refusal) : Option Word := (nextOf o).map statusWord

/-- The candidate `POLY` of R8, under which the spec's numbers hold. -/
def candidatePoly : Word := 0x9A6C9329AC4BC9B5

/-- A block after reset whose host has written these seven operands. -/
def withArgs (a : Vector Word 7) : State :=
  { State.reset with args := a, argWritten := Vector.replicate 7 true }

/-- The block with a buffer bound. -/
def withData (bytes : List Byte) (s : State) : State := bindData bytes s

/-- A dead block. -/
def deadBlock : State :=
  { State.reset with fatal := true, cause := .tableBuildFailure, tableBuildOk := false, cmd := 1, cmdWritten := true }

/-- `SEQ9` of 95_test_vectors.md. -/
def seq9 : List Byte := [0x31, 0x32, 0x33, 0x34, 0x35, 0x36, 0x37, 0x38, 0x39]

/-- `PAT(n)` of 95_test_vectors.md. -/
def pat (n : Nat) : List Byte := (List.range n).map fun i => BitVec.ofNat 8 (31 * i + 7)

/-! ### Well-formedness -/

theorem test_wf_refuses_index_ten : (HostTxn.wr 10 0).wf = false ∧ (HostTxn.rd 10).wf = false := by decide
theorem test_wf_accepts_index_nine : (HostTxn.wr 9 0).wf = true ∧ (HostTxn.rd 0).wf = true := by decide
theorem test_wf_instr : Instr.wf .compute = true := by decide

/-! ### Decoding: each word written out from the `encoding` patterns of R72 -/

theorem test_decode_compute :
    decode 0b0000000000000000000000000000000000000000000000000000000000000001 = .ok .compute := by decide
theorem test_decode_combine :
    decode 0b0000000000000000000000000000000000000000000000000000000000000010 = .ok .combine := by decide
theorem test_decode_mulxn :
    decode 0b0000000000000000000000000000000000000000000000000000000000000011 = .ok .mulxn := by decide
theorem test_decode_gf2mul :
    decode 0b0000000000000000000000000000000000000000000000000000000000000100 = .ok .gf2mul := by decide
theorem test_decode_tblSingle :
    decode 0b0000000000000000000000000000000000000000000000000000000000000101 = .ok .tblSingle := by decide
theorem test_decode_tblWide :
    decode 0b0000000000000000000000000000000000000000000000000000000000000110 = .ok .tblWide := by decide
theorem test_decode_tblBuild :
    decode 0b0000000000000000000000000000000000000000000000000000000000000111 = .ok .tblBuild := by decide

/-- 95_test_vectors.md part 2.8, the illegal words. -/
theorem test_decode_illegal :
    decode 0x0000000000000000 = .error (.unusedOpcode 0) ∧ decode 0x0000000000000008 = .error (.unusedOpcode 8)
    ∧ decode 0x00000000000000FF = .error (.unusedOpcode 0xFF)
    ∧ decode 0x0000000000000101 = .error .zeroFieldSet ∧ decode 0xFFFFFFFFFFFFFFFF = .error .zeroFieldSet := by
  decide

theorem test_decodeTableWord :
    decodeTableWord 64 6 = some .tblWide ∧ decodeTableWord 64 8 = none := by decide

/-- R83: the listing forms, as in program P1 of 95_test_vectors.md. -/
theorem test_listing :
    (HostTxn.wr 4 5).listing = some "W 4 0000000000000005".toList
    ∧ (HostTxn.bind [0x36, 0x37, 0x38, 0x39]).listing = some "B 4 36 37 38 39".toList
    ∧ (HostTxn.rd 2).listing = some "R 2".toList ∧ (HostTxn.rd 10).listing = none := by decide

/-- R84: a pseudo-instruction ends with its launch. -/
theorem test_expand_tblwide : (Pseudo.tblwide 7 1).expand = [.wr 3 7, .wr 4 1, .wr 0 6] := by decide

/-! ### The functions, against the numbers of 48, 49 and 95 under the candidate `POLY` -/

/-- 48_table_values_single.md R152. -/
theorem test_single_entries :
    lookup (buildSingle candidatePoly) 0x01 = 0x7F6EF0C830358979
    ∧ lookup (buildSingle candidatePoly) 0xFF = 0x2ADA5047EFEC8728 := by decide +kernel

/-- 49_table_values_wide_a.md R154 and 49_table_values_wide_b.md R155: `wide[3][0xA5]` and `wide[4][0x5A]`. -/
theorem test_wide_entries :
    wideLookup (buildTables candidatePoly).wide 3 0xA5 = 0xEE2B1700F53B7237
    ∧ wideLookup (buildTables candidatePoly).wide 4 0x5A = 0xBE35F7DCB27B2D12 := by decide +kernel

/-- 95_test_vectors.md part 2.4, the trace of `PAT(64)`: the accumulators after the wide iteration. -/
theorem test_wide_step :
    wideStep (buildTables candidatePoly).wide (pat 64) 0 (laneStart 0xFFFFFFFFFFFFFFFF)
      = ⟨0xE59DF39D632FAFA3, 0x7FEA558279662EBA, 0xEE3B3A58BB953202, 0x6891AC64A41784A1⟩ := by decide +kernel

/-- 95_test_vectors.md part 2.4: `PAT(97)`, seed `SEED2`, by the fast path. -/
theorem test_structured_97 :
    crc64Structured (buildTables candidatePoly) (pat 97) 0x0123456789ABCDEF = 0x53A767AF6935B94A := by
  decide +kernel

/-- 48_table_values_single.md R153. -/
theorem test_ladder_const_5 : ladderConst candidatePoly 5 = 0x70F05DCEA2EBD226 := by decide +kernel

/-! ### The commands -/

/-- 95_test_vectors.md part 2.4, the check string; the command builds the tables. -/
theorem test_compute_seq9 :
    seen (exec .compute (withData seq9 (withArgs #v[0, 9, 0, 0, 0, 0, 0])))
      = some (0xAE8B14860A799888, 0x0000000000000003) := by decide +kernel

/-- 95_test_vectors.md part 2.8: length -1 is `NEGATIVE_LENGTH`, length 10 of 9 is `BUFFER_SIZE`. -/
theorem test_compute_rejects :
    seenStatus (exec .compute (withData seq9 (withArgs #v[0, 0xFFFFFFFFFFFFFFFF, 0, 0, 0, 0, 0])))
      = some 0x0000000000000104
    ∧ seenStatus (exec .compute (withData seq9 (withArgs #v[0, 10, 0, 0, 0, 0, 0])))
      = some 0x0000000000000204 := by decide +kernel

/-- 95_test_vectors.md part 2.7, the row with three different seeds. -/
theorem test_combine_three_seeds :
    seen (exec .combine (withArgs #v[0x0123456789ABCDEF, 0xFEDCBA9876543210, 0x8C44F68931D97BE1, 5,
        0xDEADBEEFCAFEF00D, 0x212FBAF9256A5CD1, 4]))
      = some (0x6FE50094EB9FB47F, 0x0000000000000003) := by decide +kernel

/-- 95_test_vectors.md part 2.8: `lenB` = -1. -/
theorem test_combine_rejects :
    seenStatus (exec .combine (withArgs #v[0, 0, 0, 0, 0, 0, 0xFFFFFFFFFFFFFFFF]))
      = some 0x0000000000000104 := by decide +kernel

/-- 95_test_vectors.md part 2.6: `LEN_MAX`, all 63 ladder entries. -/
theorem test_mulxn_len_max :
    seen (exec .mulxn (withArgs #v[0x0123456789ABCDEF, 0x7FFFFFFFFFFFFFFF, 0, 0, 0, 0, 0]))
      = some (0x123456789ABCDEF0, 0x0000000000000003) := by decide +kernel

/-- 95_test_vectors.md part 2.6, by the iterative form. -/
theorem test_mulxn_iterative :
    seen (exec .mulxn { withArgs #v[0x0123456789ABCDEF, 3, 0, 0, 0, 0, 0] with
        params := { Params.candidate with mulxnImpl := .iterative } })
      = some (0x142C366CB8C8CC51, 0x0000000000000003) := by decide +kernel

/-- 95_test_vectors.md part 2.5. -/
theorem test_gf2mul :
    seen (exec .gf2mul (withArgs #v[0x0123456789ABCDEF, 0xFEDCBA9876543210, 0, 0, 0, 0, 0]))
      = some (0x885C91BC133ABCF9, 0x0000000000000003) := by decide +kernel

/-- 95_test_vectors.md part 2.2: index 0x80 is `POLY`, index 256 is `MALFORMED`. -/
theorem test_tblSingle :
    seen (exec .tblSingle (withArgs #v[0x80, 0, 0, 0, 0, 0, 0]))
      = some (0x9A6C9329AC4BC9B5, 0x0000000000000003)
    ∧ seenStatus (exec .tblSingle (withArgs #v[0x100, 0, 0, 0, 0, 0, 0]))
      = some 0x0000000000000304 := by decide +kernel

/-- 95_test_vectors.md part 2.2: the last flat index. -/
theorem test_tblWide_last :
    seen (exec .tblWide (withArgs #v[7, 0xFF, 0, 0, 0, 0, 0]))
      = some (0x8587EA49D8E7A90C, 0x0000000000000003) := by decide +kernel

/-- 95_test_vectors.md part 2.2: tap 8. -/
theorem test_tblWide_rejects :
    seenStatus (exec .tblWide (withArgs #v[8, 0, 0, 0, 0, 0, 0])) = some 0x0000000000000304 := by decide +kernel

/-- 95_test_vectors.md part 2.2 and 2.9: TBL_BUILD builds, or kills the block. -/
theorem test_tblBuild :
    seenStatus (exec .tblBuild State.reset) = some 0x0000000000000001
    ∧ seenStatus (exec .tblBuild { State.reset with tableBuildOk := false }) = some 0x0000000000001008 := by
  decide +kernel

/-! ### Transactions -/

/-- Every command runs as the first after reset. -/
theorem test_runs_from_reset :
    ∀ w ∈ [1, 2, 3, 4, 5, 6, 7], (nextOf (step (State.reset.withFetchWord 64 w))).isSome = true := by decide +kernel

/-- P4 of 95_test_vectors.md: opcode 0x09 is rejected, the tables not built. -/
theorem test_illegal_word :
    seenStatus (step { State.reset with pending := [.wr 0 9] }) = some 0x0000000000000304 := by decide +kernel

/-- P6 of 95_test_vectors.md: a dead block ignores a launch, stores an operand, and a reset revives it. -/
theorem test_dead_block :
    (nextOf (step { deadBlock with pending := [.wr 0 7] })).map (fun s => (s.cmd, statusWord s))
      = some (0x0000000000000001, 0x0000000000001008)
    ∧ (nextOf (step { deadBlock with pending := [.wr 5 0x55] })).map (fun s => s.args[2]) = some 0x55
    ∧ seenStatus (step { deadBlock with pending := [.reset true] }) = some 0 := by decide +kernel

/-- 95_test_vectors.md part 2.9: the eager policy, both draws. -/
theorem test_eager_reset :
    seenStatus (step { State.reset with
        params := { Params.candidate with tableBuildAtReset := true }, pending := [.reset false] })
      = some 0x0000000000001008
    ∧ seenStatus (step { State.reset with
        params := { Params.candidate with tableBuildAtReset := true }, pending := [.reset true] })
      = some 0x0000000000000001 := by decide +kernel

/-- The refused programs R1, R2 and R3 of 95_test_vectors.md. -/
theorem test_refused_programs :
    nextUnspecified { State.reset with pending := [.wr 0 1] } = some (.operandNotWritten .compute)
    ∧ nextUnspecified { State.reset with pending := [.rd 2] } = some .resultNotValid
    ∧ nextUnspecified { State.reset with pending := [.rd 10] } = some (.reservedIndex 10) := by decide +kernel

/-- R22: a write to `STATUS` is ignored, a read of it has no side effect. -/
theorem test_status_access :
    (nextOf (step { State.reset with pending := [.wr 1 0xFF] })) = some State.reset
    ∧ (nextOf (step { State.reset with pending := [.rd 1] })).map State.reads = some [0] := by decide +kernel

/-! ### Witnesses: states and operands that meet all hypotheses of a statement -/

/-- A block after reset, operands written, whose host has these transactions to issue. -/
def waiting (p : List HostTxn) : State := { withArgs (Vector.replicate 7 0) with pending := p }

/-- A live block whose tables stand. -/
def builtBlock : State :=
  { State.reset with tblReady := true, tables := buildTables candidatePoly }

/-- A live block that cannot build its tables. -/
def doomedBlock (a : Vector Word 7) : State := { withArgs a with tableBuildOk := false }

theorem withArgs_inv (a : Vector Word 7) : Invariant (withArgs a) := by
  refine ⟨⟨?_, ?_, ?_, ?_, ?_⟩, ⟨?_, ?_⟩, ?_, rfl⟩ <;> simp [TablesLegal, withArgs, State.reset]

theorem waiting_inv (p : List HostTxn) : Invariant (waiting p) := withArgs_inv (Vector.replicate 7 0)

theorem builtBlock_inv : Invariant builtBlock := by
  refine ⟨⟨?_, ?_, ?_, ?_, ?_⟩, ⟨?_, ?_⟩, fun _ => rfl, rfl⟩ <;> simp [builtBlock, State.reset]

theorem deadBlock_inv : Invariant deadBlock := by
  refine ⟨⟨?_, ?_, ?_, ?_, ?_⟩, ⟨?_, ?_⟩, ?_, rfl⟩ <;> simp [TablesLegal, deadBlock, State.reset]

theorem doomedBlock_inv (a : Vector Word 7) : Invariant (doomedBlock a) := by
  refine ⟨⟨?_, ?_, ?_, ?_, ?_⟩, ⟨?_, ?_⟩, ?_, rfl⟩ <;> simp [TablesLegal, doomedBlock, withArgs, State.reset]

theorem withData_inv (bytes : List Byte) (a : Vector Word 7) : Invariant (withData bytes (withArgs a)) := by
  have h : ∀ (k : Nat) (l : List Byte), Memory.wfFrom k (cellsFrom k l) = true := by
    intro k l
    induction l generalizing k with
    | nil => rfl
    | cons b l ih => simp [cellsFrom, Memory.wfFrom, ih]
  obtain ⟨h1, h2, h3, -⟩ := withArgs_inv a
  exact ⟨h1, h2, h3, h 0 bytes⟩

theorem witness_TableDecoderAgrees :
    (⟨0xFFFFFFFFFFFFFFFF, 0x0000000000000007, .tblBuild⟩ : OpcodeRow) ∈ opcodeTable
    ∧ (⟨0xFFFFFFFFFFFFFFFF, 0x0000000000000007, .tblBuild⟩ : OpcodeRow).selects 7 = true := by
  simp [opcodeTable, OpcodeRow.selects]

theorem witness_StepRunsDecodedInstruction :
    (waiting [.wr 0 7]).pending = .wr 0 7 :: [] ∧ decode 7 = .ok .tblBuild ∧ State.reset.pending = [] :=
  ⟨rfl, rfl, rfl⟩

theorem witness_RegisterAccessRules :
    (waiting [.wr 9 1]).pending = .wr (3 + (6 : Fin 7)) 1 :: []
    ∧ (waiting [.wr 3 1]).pending = .wr (3 + (0 : Fin 7)) 1 :: []
    ∧ (waiting [.wr 10 1]).pending = .wr 10 1 :: [] ∧ (waiting [.wr 1 1]).pending = .wr 1 1 :: []
    ∧ (waiting [.wr 2 1]).pending = .wr 2 1 :: [] ∧ (waiting [.rd 0]).pending = .rd 0 :: [] ∧ 0 < 10
    ∧ (waiting [.rd 1]).pending = .rd 1 :: [] ∧ (waiting [.rd 2]).pending = .rd 2 :: []
    ∧ (waiting [.rd 3]).pending = .rd 3 :: [] ∧ 3 = 3 + ((0 : Fin 7) : Nat) ∧ 9 = 3 + ((6 : Fin 7) : Nat)
    ∧ (waiting [.rd 9]).pending = .rd 9 :: [] ∧ 9 < 10 ∧ (waiting [.rd 10]).pending = .rd 10 :: []
    ∧ (∃ t, launchWord 7 State.reset = .next t) ∧ ∃ t, launchWord 8 State.reset = .next t :=
  ⟨rfl, rfl, rfl, rfl, rfl, rfl, by decide, rfl, rfl, rfl, rfl, rfl, rfl, by decide, rfl, ⟨_, rfl⟩, _, rfl⟩

theorem witness_BindSetsTheBuffer : (waiting [.bind seq9]).pending = .bind seq9 :: [] := rfl

theorem witness_StatusWordLayout :
    State.reset.cause = .none ∧ deadBlock.cause = .tableBuildFailure
    ∧ (raiseInvalid .negativeLength State.reset).cause = .invalidArgument .negativeLength
    ∧ (raiseInvalid .bufferSize State.reset).cause = .invalidArgument .bufferSize
    ∧ (raiseInvalid .malformed State.reset).cause = .invalidArgument .malformed :=
  ⟨rfl, rfl, rfl, rfl, rfl⟩

theorem witness_ResetEffect :
    (waiting [.reset true]).pending = .reset true :: []
    ∧ (waiting [.reset true]).params.tableBuildAtReset = false
    ∧ ({ waiting [.reset false] with
          params := { Params.candidate with tableBuildAtReset := true } } : State).params.tableBuildAtReset = true :=
  ⟨rfl, rfl, rfl⟩

theorem witness_StepKeepsInvariant : Invariant (waiting [.wr 0 2]) ∧ ∃ t, step (waiting [.wr 0 2]) = .next t :=
  ⟨waiting_inv _, _, rfl⟩

theorem witness_OnlyResetRevivesOrUnbuilds :
    (∀ ok rest, ({ deadBlock with pending := [.wr 0 1] } : State).pending ≠ .reset ok :: rest)
    ∧ (∃ t, step { deadBlock with pending := [.wr 0 1] } = .next t) ∧ deadBlock.fatal = true
    ∧ (∀ ok rest, ({ builtBlock with pending := [.wr 0 7] } : State).pending ≠ .reset ok :: rest)
    ∧ (∃ t, step { builtBlock with pending := [.wr 0 7] } = .next t) ∧ builtBlock.tblReady = true :=
  ⟨by simp, ⟨_, rfl⟩, rfl, by simp, ⟨_, rfl⟩, rfl⟩

theorem witness_ParametersAreFixed :
    (∃ t, step (waiting [.wr 0 4]) = .next t) ∧ ∀ ok rest, (waiting [.wr 0 4]).pending ≠ .reset ok :: rest :=
  ⟨⟨_, rfl⟩, by simp [waiting]⟩

theorem witness_BlockWritesNoMemory :
    (∃ t, step (waiting [.wr 0 1]) = .next t)
    ∧ (∀ bytes rest, (waiting [.wr 0 1]).pending ≠ .bind bytes :: rest)
    ∧ ∀ ok rest, (waiting [.wr 0 1]).pending ≠ .reset ok :: rest :=
  ⟨⟨_, rfl⟩, by simp [waiting], by simp [waiting]⟩

theorem witness_StepStopsOnlyOnReservedRead :
    Invariant (waiting [.rd 10]) ∧ ∃ r, step (waiting [.rd 10]) = .refused r := ⟨waiting_inv _, _, rfl⟩

/-- Each clause of the launch sequence: a reject of every command that has a check, a death, a result. -/
theorem witness_LaunchSequence :
    Invariant (withArgs #v[8, 0x100, 0, 0x8000000000000000, 0, 0, 0])
    ∧ operandCheck .combine (withArgs #v[8, 0x100, 0, 0x8000000000000000, 0, 0, 0]) = some .negativeLength
    ∧ operandCheck .tblWide (withArgs #v[8, 0x100, 0, 0x8000000000000000, 0, 0, 0]) = some .malformed
    ∧ operandCheck .tblSingle (withArgs #v[0x100, 0, 0, 0, 0, 0, 0]) = some .malformed
    ∧ operandCheck .compute (withArgs #v[0, 1, 0, 0, 0, 0, 0]) = some .bufferSize
    ∧ operandCheck .mulxn (withArgs #v[0, 0x8000000000000000, 0, 0, 0, 0, 0]) = some .negativeLength
    ∧ Invariant (doomedBlock (Vector.replicate 7 0)) ∧ operandCheck .compute (doomedBlock (Vector.replicate 7 0)) = none
    ∧ ¬CanBuild (doomedBlock (Vector.replicate 7 0))
    ∧ operandCheck .combine (withArgs (Vector.replicate 7 0)) = none ∧ CanBuild (withArgs (Vector.replicate 7 0))
    ∧ (withArgs (Vector.replicate 7 0)).fatal = false :=
  ⟨withArgs_inv _, by decide, by decide, by decide, by decide, by decide, doomedBlock_inv _, by decide,
    by simp [CanBuild, doomedBlock, withArgs, State.reset], by decide, .inr rfl, rfl⟩

/-- Each way a word is illegal, at its boundary: a high bit, opcode 0x00, opcode 0x08, opcode 0xFF. -/
theorem witness_IllegalWordIsMalformed :
    (waiting [.wr 0 0x101]).pending = .wr 0 0x101 :: [] ∧ (waiting [.wr 0 0x101]).fatal = false
    ∧ (0x101 : Word).extractLsb' 8 56 ≠ 0 ∧ (0 : Word).extractLsb' 0 8 = 0
    ∧ ((8 : Word).extractLsb' 0 8).toNat ≥ 8 ∧ ((0xFF : Word).extractLsb' 0 8).toNat ≥ 8 :=
  ⟨rfl, rfl, by decide, by decide, by decide, by decide⟩

theorem witness_DeadBlockIgnoresLaunches :
    deadBlock.fatal = true ∧ ({ deadBlock with pending := [.wr 0 1] } : State).pending = .wr 0 1 :: []
    ∧ ({ deadBlock with pending := [.wr 9 1] } : State).pending = .wr (3 + (6 : Fin 7)) 1 :: []
    ∧ ({ deadBlock with pending := [.rd 9] } : State).pending = .rd 9 :: []
    ∧ ({ deadBlock with pending := [.bind [1]] } : State).pending = .bind [1] :: []
    ∧ ({ deadBlock with pending := [.reset true] } : State).pending = .reset true :: []
    ∧ (∀ ok rest, ({ deadBlock with pending := [.rd 9] } : State).pending ≠ .reset ok :: rest)
    ∧ (∃ t, step { deadBlock with pending := [.rd 9] } = .next t)
    ∧ Invariant { deadBlock with pending := [.rd 9] } :=
  ⟨rfl, rfl, rfl, rfl, rfl, rfl, by simp, ⟨_, rfl⟩, deadBlock_inv⟩

theorem witness_LaunchFrame :
    (∃ t, exec .gf2mul (withArgs (Vector.replicate 7 1)) = .next t) ∧ (∃ t, exec .compute deadBlock = .next t)
    ∧ deadBlock.fatal = true ∧ (withArgs (Vector.replicate 7 1)).fatal = false :=
  ⟨⟨_, rfl⟩, ⟨_, rfl⟩, rfl, rfl⟩

theorem witness_WhoRaisesWhat :
    (withArgs #v[0x100, 0, 0, 0, 0, 0, 0]).fatal = false
    ∧ ∃ t, exec .tblSingle (withArgs #v[0x100, 0, 0, 0, 0, 0, 0]) = .next t
      ∧ t.cause = .invalidArgument .malformed := ⟨rfl, _, rfl, rfl⟩

/-- The second launch: after a result, and after a reject. -/
theorem witness_RelaunchRepeats :
    (∃ t, exec .mulxn (withArgs (Vector.replicate 7 1)) = .next t ∧ t.valid = true)
    ∧ ∃ t, exec .compute (withArgs (Vector.replicate 7 1)) = .next t ∧ t.err = true :=
  ⟨⟨_, rfl, rfl⟩, ⟨_, rfl, rfl⟩⟩

/-- COMPUTE at the boundary: the length is exactly `DATA_AVAIL`. -/
theorem witness_ComputeCompletes :
    TablesLegal (withData seq9 (withArgs #v[0, 9, 0, 0, 0, 0, 0]))
    ∧ Memory.wf (withData seq9 (withArgs #v[0, 9, 0, 0, 0, 0, 0])).data = true
    ∧ (withData seq9 (withArgs #v[0, 9, 0, 0, 0, 0, 0])).fatal = false
    ∧ CanBuild (withData seq9 (withArgs #v[0, 9, 0, 0, 0, 0, 0]))
    ∧ (9 : Word).toNat < 2 ^ 63
    ∧ (9 : Word).toNat ≤ Memory.avail (withData seq9 (withArgs #v[0, 9, 0, 0, 0, 0, 0])).data :=
  ⟨(withData_inv _ _).2.2.1, (withData_inv _ _).2.2.2, rfl, .inr rfl, by decide, by decide⟩

/-- COMPUTE's rejects at their boundaries: -2^63, and `DATA_AVAIL` + 1. -/
theorem witness_ComputeRejects :
    (withArgs #v[0, 0x8000000000000000, 0, 0, 0, 0, 0]).fatal = false ∧ (0x8000000000000000 : Word).toInt < 0
    ∧ 0 ≤ (10 : Word).toInt
    ∧ (10 : Word).toInt > (Memory.avail (withData seq9 (withArgs #v[0, 10, 0, 0, 0, 0, 0])).data : Int) :=
  ⟨rfl, by decide, by decide, by decide⟩

/-- COMBINE with both lengths `LEN_MAX`, at a block whose tables stand. -/
theorem witness_CombineCompletes :
    TablesLegal { builtBlock with args := Vector.replicate 7 0x7FFFFFFFFFFFFFFF }
    ∧ builtBlock.fatal = false ∧ CanBuild builtBlock ∧ (0x7FFFFFFFFFFFFFFF : Word).toNat < 2 ^ 63 :=
  ⟨fun _ => rfl, rfl, .inl rfl, by decide⟩

theorem witness_MulxnCompletes :
    TablesLegal (withArgs #v[1, 0x7FFFFFFFFFFFFFFF, 0, 0, 0, 0, 0])
    ∧ (withArgs #v[1, 0x7FFFFFFFFFFFFFFF, 0, 0, 0, 0, 0]).fatal = false
    ∧ CanBuild (withArgs #v[1, 0x7FFFFFFFFFFFFFFF, 0, 0, 0, 0, 0])
    ∧ (0x7FFFFFFFFFFFFFFF : Word).toNat < 2 ^ 63 :=
  ⟨(withArgs_inv _).2.2.1, rfl, .inr rfl, by decide⟩

/-- A negative `nBytes`, a negative `lengthA`, a negative `lengthB`. -/
theorem witness_NegativeLengthRejects :
    (withArgs #v[0, 0xFFFFFFFFFFFFFFFF, 0, 0xFFFFFFFFFFFFFFFF, 0, 0, 0]).fatal = false
    ∧ (withArgs #v[0, 0xFFFFFFFFFFFFFFFF, 0, 0xFFFFFFFFFFFFFFFF, 0, 0, 0]).args[1].toInt < 0
    ∧ (withArgs #v[0, 0xFFFFFFFFFFFFFFFF, 0, 0xFFFFFFFFFFFFFFFF, 0, 0, 0]).args[3].toInt < 0
    ∧ (withArgs #v[0, 0, 0, 0, 0, 0, 0x8000000000000000]).args[6].toInt < 0 :=
  ⟨rfl, by decide, by decide, by decide⟩

theorem witness_Gf2mulCompletes : TablesLegal builtBlock ∧ builtBlock.fatal = false ∧ CanBuild builtBlock :=
  ⟨fun _ => rfl, rfl, .inl rfl⟩

/-- TBL_SINGLE and TBL_WIDE at the top of their ranges. -/
theorem witness_TblSingleCompletes_TblWideCompletes :
    TablesLegal (withArgs #v[255, 0, 0, 0, 0, 0, 0]) ∧ CanBuild (withArgs #v[255, 0, 0, 0, 0, 0, 0])
    ∧ (withArgs #v[255, 0, 0, 0, 0, 0, 0]).fatal = false
    ∧ (withArgs #v[255, 0, 0, 0, 0, 0, 0]).args[0].toNat ≤ 255
    ∧ TablesLegal (withArgs #v[7, 255, 0, 0, 0, 0, 0]) ∧ CanBuild (withArgs #v[7, 255, 0, 0, 0, 0, 0])
    ∧ (withArgs #v[7, 255, 0, 0, 0, 0, 0]).fatal = false
    ∧ (withArgs #v[7, 255, 0, 0, 0, 0, 0]).args[0].toNat ≤ 7
    ∧ (withArgs #v[7, 255, 0, 0, 0, 0, 0]).args[1].toNat ≤ 255 :=
  ⟨(withArgs_inv _).2.2.1, .inr rfl, rfl, by decide, (withArgs_inv _).2.2.1, .inr rfl, rfl, by decide, by decide⟩

theorem witness_TableIndexRejects :
    (withArgs #v[0x100, 0, 0, 0, 0, 0, 0]).fatal = false ∧ (withArgs #v[0x100, 0, 0, 0, 0, 0, 0]).args[0].toNat > 255
    ∧ (withArgs #v[8, 0, 0, 0, 0, 0, 0]).args[0].toNat > 7
    ∧ (withArgs #v[0, 0x100, 0, 0, 0, 0, 0]).args[1].toNat > 255 := ⟨rfl, by decide, by decide, by decide⟩

theorem witness_TblBuildCompletes :
    builtBlock.fatal = false ∧ CanBuild builtBlock ∧ builtBlock.tblReady = true
    ∧ State.reset.fatal = false ∧ CanBuild State.reset ∧ State.reset.tblReady = false :=
  ⟨rfl, .inl rfl, rfl, rfl, .inr rfl, rfl⟩

theorem witness_BuildFailureKills :
    (doomedBlock #v[0, 1, 0, 0, 0, 0, 0]).fatal = false ∧ (doomedBlock #v[0, 1, 0, 0, 0, 0, 0]).tblReady = false
    ∧ (doomedBlock #v[0, 1, 0, 0, 0, 0, 0]).tableBuildOk = false
    ∧ operandCheck .mulxn (doomedBlock #v[0, 1, 0, 0, 0, 0, 0]) = none
    ∧ operandCheck .compute (doomedBlock #v[0, 1, 0, 0, 0, 0, 0]) = some .bufferSize :=
  ⟨rfl, rfl, rfl, by decide, by decide⟩

/-- Two blocks that differ in an unwritten operand, in `CMD`, in `RESULT` and in unbuilt tables, about to run
GF2MUL, whose operands are written. -/
def onlyTwoWritten (x : Word) : State :=
  { State.reset with
    cmd := x, result := x, args := #v[3, 5, x, x, x, x, x],
    argWritten := #v[true, true, false, false, false, false, false], pending := [.wr 0 4] }

theorem witness_UnspecifiedValuesDoNotMatter :
    SameSpecified (onlyTwoWritten 0) (onlyTwoWritten 1) ∧ nextUnspecified (onlyTwoWritten 0) = none
    ∧ ∃ t, step (onlyTwoWritten 0) = .next t := by
  refine ⟨⟨rfl, ?_, rfl, rfl, rfl, rfl, rfl, ?_, rfl, by decide, ?_, rfl, rfl, rfl, rfl, rfl⟩, by decide, _, rfl⟩
  · simp [onlyTwoWritten, State.reset]
  · simp [onlyTwoWritten, State.reset]
  · simp [onlyTwoWritten, State.reset]

theorem witness_SpecifiedTransactionsComplete :
    Invariant (waiting [.wr 0 2]) ∧ nextUnspecified (waiting [.wr 0 2]) = none
    ∧ nextUnspecified (waiting [.rd 2]) = some .resultNotValid :=
  ⟨waiting_inv _, by decide, by decide⟩

theorem witness_MulxnImplDoesNotMatter : Invariant (waiting [.wr 0 3]) ∧ ∃ t, step (waiting [.wr 0 3]) = .next t :=
  ⟨waiting_inv _, _, rfl⟩

/-- `A` is one byte, `B` is empty, with three different seeds (95_test_vectors.md part 2.4 for the CRC of `61`). -/
theorem witness_CombineCommandIsConcatenation :
    TablesLegal (withArgs #v[5, 0, 0x8C2F8445B4CBFC3C, 1, 7, 7, 0])
    ∧ (withArgs #v[5, 0, 0x8C2F8445B4CBFC3C, 1, 7, 7, 0]).fatal = false
    ∧ CanBuild (withArgs #v[5, 0, 0x8C2F8445B4CBFC3C, 1, 7, 7, 0])
    ∧ ([0x61] : List Byte).length < 2 ^ 63
    ∧ (0x8C2F8445B4CBFC3C : Word) = crc64 (buildSingle candidatePoly) [0x61] 0
    ∧ (1 : Word).toNat = ([0x61] : List Byte).length
    ∧ (7 : Word) = crc64 (buildSingle candidatePoly) [] 7 ∧ (0 : Word).toNat = ([] : List Byte).length :=
  ⟨(withArgs_inv _).2.2.1, rfl, .inr rfl, by decide, by decide +kernel, by decide, by decide +kernel, by decide⟩

theorem witness_SingleProperties :
    ∀ j < 8, lookup (buildSingle 1) (BitVec.ofNat 8 (2 ^ j)) = lookup (buildSingle 1) (BitVec.ofNat 8 (2 ^ j)) :=
  fun _ _ => rfl

theorem witness_WideEntries : (6 : BitVec 3) ≠ 7 := by decide

theorem witness_ByteStepLinearity : (seq9.drop 1).length = 8 := by decide

theorem witness_LittleEndianWord : 1 + 7 < seq9.length ∧ 7 < 8 ∧ 0 + 7 < (seq9.drop 1).length := by decide

theorem witness_EmptyInputIdentity :
    (withArgs #v[9, 0, 0, 0, 0, 0, 0]).fatal = false ∧ CanBuild (withArgs #v[9, 0, 0, 0, 0, 0, 0])
    ∧ (withArgs #v[9, 0, 0, 0, 0, 0, 0]).args[1] = 0 := ⟨rfl, .inr rfl, rfl⟩

theorem witness_XpowLaws : 63 ≤ 63 ∧ 0 < 64 := by decide

theorem witness_LadderEqualsIterated : 2 ^ 63 - 1 < 2 ^ 63 := by decide

end Sys2Proof.Tests
end

/-! PROOFS. The encoding family (30_encoding.md): which words are illegal, and what the launch of one does. -/

namespace Sys2Proof.Proofs.Encoding

open Sys2Proof Sys2Proof.Machine Sys2Proof.Safety

/-! ### Which words select a command -/

/-- An illegal command word as R73 says it: a set bit in 63:8, or an opcode `0x00` or above `0x07`. -/
def IllegalWord (w : Word) : Prop :=
  zeroField w ≠ 0 ∨ opcodeField w = 0 ∨ (opcodeField w).toNat ≥ 8

theorem decodeOpcode_unused {op : Byte} (h : op = 0 ∨ op.toNat ≥ 8) :
    decodeOpcode op = .error (.unusedOpcode op) := by
  have hne : ∀ n : Byte, 1 ≤ n.toNat → n.toNat ≤ 7 → op ≠ n := by
    rintro n h1 h7 rfl
    rcases h with h0 | h8
    · simp [h0] at h1
    · omega
  simp [decodeOpcode, hne]

theorem decodeOpcode_used {op : Byte} (h0 : op ≠ 0) (h8 : op.toNat < 8) :
    ∃ i, decodeOpcode op = .ok i := by
  have hop : op = 1 ∨ op = 2 ∨ op = 3 ∨ op = 4 ∨ op = 5 ∨ op = 6 ∨ op = 7 := by bv_omega
  rcases hop with rfl | rfl | rfl | rfl | rfl | rfl | rfl <;> exact ⟨_, rfl⟩

theorem decode_of_illegalWord {w : Word} (h : IllegalWord w) : ∃ e, decode w = .error e := by
  by_cases hz : zeroField w = 0
  · have hop : opcodeField w = 0 ∨ (opcodeField w).toNat ≥ 8 := h.resolve_left (not_not_intro hz)
    exact ⟨_, by simpa [decode, hz] using decodeOpcode_unused hop⟩
  · exact ⟨.zeroFieldSet, if_pos hz⟩

theorem decode_of_not_illegalWord {w : Word} (h : ¬IllegalWord w) : ∃ i, decode w = .ok i := by
  obtain ⟨hz, h0, h8⟩ : zeroField w = 0 ∧ opcodeField w ≠ 0 ∧ (opcodeField w).toNat < 8 := by
    simpa [IllegalWord] using h
  simpa [decode, hz] using decodeOpcode_used h0 h8

theorem exists_decode_eq_ok_iff (w : Word) : (∃ i, decode w = .ok i) ↔ ¬IllegalWord w := by
  refine ⟨?_, decode_of_not_illegalWord⟩
  rintro ⟨i, hi⟩ hw
  obtain ⟨e, he⟩ := decode_of_illegalWord hw
  simp [hi] at he

/-! ### The launch of an illegal word -/

/-- The launch of an illegal word is the rejection as `MALFORMED` alone, with no table construction before it
(R169 steps 1 to 3). -/
theorem launchWord_of_illegalWord {w : Word} {s : State} (hw : IllegalWord w) (hf : s.fatal = false) :
    launchWord w s = .next (raiseInvalid .malformed (openLaunch w s)) := by
  obtain ⟨e, he⟩ := decode_of_illegalWord hw
  simp [launchWord, he, launchIllegal, hf]

theorem rejected_raiseInvalid_openLaunch (w : Word) (c : InvalidArg) {s : State} (hf : s.fatal = false) :
    Rejected w c s (raiseInvalid c (openLaunch w s)) := by
  simp [Rejected, KeepsInputs, hf]

/-- Settles O16: such a word does not decode, so its launch is the bare rejection. -/
theorem illegalWordIsMalformed : Obligations.IllegalWordIsMalformed := by
  unfold Obligations.IllegalWordIsMalformed
  intro w
  refine ⟨exists_decode_eq_ok_iff w, fun s rest hp hf hw => ?_⟩
  have hlive : (popPending rest s).fatal = false := hf
  exact ⟨_, (step_pending hp).trans (launchWord_of_illegalWord hw hlive),
    rejected_raiseInvalid_openLaunch w .malformed hlive⟩

end Sys2Proof.Proofs.Encoding

/-! PROOFS. The table set family (40_table_set.md): the entries of `single`, the laws of `adv`, and the linearity
of the byte step. Facts that hold for any table at all are stated for any table. -/

namespace Sys2Proof.Proofs.TableSet

open Sys2Proof Sys2Proof.Machine

/-! ### The entries of `single` -/

/-- The entry of `single` at a byte, without the detour through the index (R91). -/
theorem singleEntry_toNat (poly : Word) (b : Byte) : singleEntry poly b.toNat = mulx8 poly (b.setWidth 64) := by
  rw [singleEntry, BitVec.ofNat_toNat]

theorem mulx8_xor (poly u v : Word) : mulx8 poly (u ^^^ v) = mulx8 poly u ^^^ mulx8 poly v :=
  mulxIter_xor poly 8 u v

/-- `single` is linear over XOR (R93). -/
theorem lookup_buildSingle_xor (poly : Word) (a b : Byte) :
    lookup (buildSingle poly) (a ^^^ b) = lookup (buildSingle poly) a ^^^ lookup (buildSingle poly) b := by
  simp only [lookup_buildSingle, singleEntry_toNat, BitVec.setWidth_xor, mulx8_xor]

theorem lookup_buildSingle_zero (poly : Word) : lookup (buildSingle poly) 0#8 = 0#64 := by
  rw [lookup_buildSingle, singleEntry_toNat]
  exact mulxIter_zero poly 8

/-- Seven shifts bring the bit of `0x80` to the low end, and the eighth step shifts it out (R93). -/
theorem lookup_buildSingle_top (poly : Word) : lookup (buildSingle poly) 0x80 = poly := by
  rw [lookup_buildSingle, singleEntry_toNat]
  simp [mulx8, mulxIter, mulx]

/-- Settles O36. The single-bit entry `0x80` is the polynomial itself, so two tables that agree there are one. -/
theorem singleProperties : Obligations.SingleProperties := by
  intro poly
  refine ⟨lookup_buildSingle_zero poly, lookup_buildSingle_top poly, lookup_buildSingle_xor poly, fun q h => ?_⟩
  have htop : lookup (buildSingle poly) 0x80 = lookup (buildSingle q) 0x80 := h 7 (by decide)
  rw [lookup_buildSingle_top, lookup_buildSingle_top] at htop
  rw [htop]

/-! ### The laws of `adv` -/

theorem adv_add (single : Vector Word 256) (c : Word) (m n : Nat) :
    adv single c (m + n) = adv single (adv single c m) n := by
  induction n with
  | zero => rfl
  | succ n ih => exact congrArg (zeroStep single) ih

/-- One more zero step may be taken first as well as last. -/
theorem adv_succ_eq_adv_zeroStep (single : Vector Word 256) (c : Word) (m : Nat) :
    adv single c (m + 1) = adv single (zeroStep single c) m := by
  rw [Nat.add_comm, adv_add]
  rfl

/-- `adv` appends zero bytes (R99). -/
theorem adv_eq_stepBytes_replicate (single : Vector Word 256) (c : Word) (m : Nat) :
    adv single c m = stepBytes single c (List.replicate m 0) := by
  induction m generalizing c with
  | zero => rfl
  | succ m ih => rw [adv_succ_eq_adv_zeroStep, ih, List.replicate_succ, stepBytes, zeroStep]

theorem zeroStep_zero (poly : Word) : zeroStep (buildSingle poly) 0 = 0 := by
  simp [zeroStep, byteStep, lookup_buildSingle_zero, -lookup_buildSingle]

theorem adv_zero (poly : Word) (m : Nat) : adv (buildSingle poly) 0 m = 0 := by
  induction m with
  | zero => rfl
  | succ m ih => rw [adv, ih, zeroStep_zero]

/-- Settles O38: the first two laws are `adv`'s own equations, and all but the fourth hold for any table. -/
theorem advLaws : Obligations.AdvLaws := fun poly c =>
  ⟨rfl, fun _ => rfl, adv_add _ c, adv_zero poly, adv_eq_stepBytes_replicate _ c⟩

/-! ### Linearity of the byte step -/

/-- The byte step is a shift and a lookup, both linear over XOR (R100). -/
theorem byteStep_xor (poly c d : Word) (a b : Byte) :
    byteStep (buildSingle poly) (c ^^^ d) (a ^^^ b)
      = byteStep (buildSingle poly) c a ^^^ byteStep (buildSingle poly) d b := by
  have hindex : (c ^^^ d ^^^ (a ^^^ b).setWidth 64).setWidth 8
      = (c ^^^ a.setWidth 64).setWidth 8 ^^^ (d ^^^ b.setWidth 64).setWidth 8 := by
    simp only [BitVec.setWidth_xor]
    ac_rfl
  rw [byteStep, hindex, lookup_buildSingle_xor, BitVec.ushiftRight_xor_distrib, byteStep, byteStep]
  ac_rfl

theorem zeroStep_xor (poly c d : Word) :
    zeroStep (buildSingle poly) (c ^^^ d) = zeroStep (buildSingle poly) c ^^^ zeroStep (buildSingle poly) d :=
  byteStep_xor poly c d 0 0

theorem adv_xor (poly c d : Word) (m : Nat) :
    adv (buildSingle poly) (c ^^^ d) m = adv (buildSingle poly) c m ^^^ adv (buildSingle poly) d m := by
  induction m with
  | zero => rfl
  | succ m ih => rw [adv, ih, zeroStep_xor, adv, adv]

/-! ### The bytes of a word, stepped through one by one -/

/-- The low byte of a word is gone when the word is shifted right by a byte. -/
theorem setWidth_ushiftRight_eight (b : Byte) : b.setWidth 64 >>> 8 = 0#64 := by
  ext i hi
  simp

/-- A byte above the lowest moves down one place when a word is shifted right by a byte. -/
theorem setWidth_shiftLeft_ushiftRight_eight (b : Byte) {k : Nat} (hk : k ≤ 48) :
    b.setWidth 64 <<< (k + 8) >>> 8 = b.setWidth 64 <<< k := by
  ext i hi
  have hindex : 8 + i - (k + 8) = i - k := by omega
  have hless : 8 + i < k + 8 ↔ i < k := by omega
  rcases Nat.lt_or_ge i 56 with h56 | h56
  · have hi8 : 8 + i < 64 := by omega
    simp [hindex, hless, hi8]
  · have hout : b.getLsbD (i - k) = false := b.getLsbD_of_ge _ (by omega)
    simp [hindex, hout]

theorem setWidth_eight_wordAt (b : Byte) (bs : List Byte) : (wordAt (b :: bs) 0).setWidth 8 = b := by
  ext i hi
  simp [wordAt, byteAt]

/-- Dropping the low byte of the word at the front of a sequence drops the sequence's first byte (R53). -/
theorem wordAt_cons_ushiftRight (b : Byte) {bs : List Byte} (h : bs.length ≤ 7) :
    wordAt (b :: bs) 0 >>> 8 = wordAt bs 0 := by
  simp [wordAt, byteAt, BitVec.ushiftRight_or_distrib, setWidth_ushiftRight_eight,
    setWidth_shiftLeft_ushiftRight_eight, List.getElem?_eq_none h]

/-- A byte stepped in is the low byte of the accumulator XORed before a zero step. -/
theorem zeroStep_xor_wordAt_cons (single : Vector Word 256) (c : Word) (b : Byte) {bs : List Byte}
    (h : bs.length ≤ 7) :
    zeroStep single (c ^^^ wordAt (b :: bs) 0) = byteStep single c b ^^^ wordAt bs 0 := by
  have hindex : (c ^^^ wordAt (b :: bs) 0 ^^^ (0 : Byte).setWidth 64).setWidth 8
      = (c ^^^ b.setWidth 64).setWidth 8 := by
    simp [BitVec.setWidth_xor, setWidth_eight_wordAt]
  rw [zeroStep, byteStep, hindex, BitVec.ushiftRight_xor_distrib, wordAt_cons_ushiftRight b h, byteStep]
  ac_rfl

/-- Up to eight bytes stepped through one by one are one little-endian word, XORed in at once and advanced past
as many zero bytes; this holds for any table (R100). -/
theorem stepBytes_eq_adv_xor_wordAt (single : Vector Word 256) (c : Word) {bytes : List Byte}
    (h : bytes.length ≤ 8) :
    stepBytes single c bytes = adv single (c ^^^ wordAt bytes 0) bytes.length := by
  induction bytes generalizing c with
  | nil => simp [stepBytes, adv, wordAt, byteAt]
  | cons b bs ih =>
    have hbs : bs.length ≤ 7 := Nat.le_of_succ_le_succ h
    calc stepBytes single (byteStep single c b) bs
        = adv single (byteStep single c b ^^^ wordAt bs 0) bs.length := ih _ (by omega)
      _ = adv single (zeroStep single (c ^^^ wordAt (b :: bs) 0)) bs.length := by
          rw [zeroStep_xor_wordAt_cons single c b hbs]
      _ = adv single (c ^^^ wordAt (b :: bs) 0) (bs.length + 1) := (adv_succ_eq_adv_zeroStep ..).symm

/-- Settles O39: linearity rests on that of `single`, the word form on shifting one byte at a time out of it. -/
theorem byteStepLinearity : Obligations.ByteStepLinearity := fun poly c d =>
  ⟨byteStep_xor poly c d, zeroStep_xor poly c d, adv_xor poly c d,
    fun _ h => h ▸ stepBytes_eq_adv_xor_wordAt (buildSingle poly) c h.le⟩

end Sys2Proof.Proofs.TableSet

/-! PROOFS. The engine family (41_engine_compute.md): the bytewise accumulator over a split buffer, and the lanes,
the wide loop and the fold against it (R120). -/

namespace Sys2Proof.Proofs.Engine

open Sys2Proof Sys2Proof.Machine Sys2Proof.Proofs.TableSet

/-! ### A split buffer -/

@[simp] theorem complement_complement (v : Word) : complement (complement v) = v := by
  rw [complement, complement, BitVec.xor_assoc, BitVec.xor_self, BitVec.xor_zero]

theorem stepBytes_append (single : Vector Word 256) (c : Word) (as bs : List Byte) :
    stepBytes single c (as ++ bs) = stepBytes single (stepBytes single c as) bs := by
  induction as generalizing c with
  | nil => rfl
  | cons a as ih => exact ih (byteStep single c a)

/-- Settles O43: the two complements between the calls cancel, so the accumulator carries over. -/
theorem streamingEquivalence : Obligations.StreamingEquivalence := by
  intro single D k s
  calc crc64 single (D.drop k) (crc64 single (D.take k) s)
      = complement (stepBytes single (stepBytes single (complement s) (D.take k)) (D.drop k)) := by
        simp only [crc64, complement_complement]
    _ = crc64 single D s := by rw [← stepBytes_append, List.take_append_drop, crc64]

/-! ### The eight lookups of a lane (R96) -/

/-- The accumulator 0 stays 0, in the spelling of 0 that `simp` prefers (R99). -/
@[simp] theorem adv_zero_ofNat (poly : Word) (m : Nat) : adv (buildSingle poly) 0#64 m = 0#64 := adv_zero poly m

theorem bytePos_eq_setWidth (w : Word) (j : Nat) : bytePos w j = (w >>> (8 * j)).setWidth 8 := by
  ext i hi
  simp [bytePos]

/-- A zero step takes the lowest byte left of a word through `single` and shifts the others down (R96, R98). -/
theorem zeroStep_ushiftRight (single : Vector Word 256) (u : Word) (j : Nat) :
    zeroStep single (u >>> (8 * j)) = lookup single (bytePos u j) ^^^ u >>> (8 * (j + 1)) := by
  simp [zeroStep, byteStep, bytePos_eq_setWidth, ← BitVec.shiftRight_add, Nat.mul_succ, BitVec.xor_comm]

theorem adv_ushiftRight_succ (poly u : Word) (j m : Nat) :
    adv (buildSingle poly) (u >>> (8 * j)) (m + 1)
      = adv (buildSingle poly) (lookup (buildSingle poly) (bytePos u j)) m
        ^^^ adv (buildSingle poly) (u >>> (8 * (j + 1))) m := by
  rw [adv_succ_eq_adv_zeroStep, zeroStep_ushiftRight, adv_xor]

/-- The eight lookups of a lane advance its word past a whole block: each zero step takes out one byte, and after
eight the word is shifted empty (R96). -/
theorem laneLookup_eq_adv (poly u : Word) :
    laneLookup (buildWide (buildSingle poly)) u = adv (buildSingle poly) u blockBytes := by
  have hempty : u >>> 64 = 0#64 := BitVec.ushiftRight_eq_zero (Nat.le_refl 64)
  calc laneLookup (buildWide (buildSingle poly)) u
      = adv (buildSingle poly) (u >>> (8 * 0)) 32 := by
        iterate 8 rw [adv_ushiftRight_succ]
        simp [laneLookup, hempty, BitVec.xor_assoc, -lookup_buildSingle]
    _ = adv (buildSingle poly) u blockBytes := by simp [blockBytes]

/-! ### One block: words, lanes and fold (R119, R120) -/

/-- `F` of R120: what four lanes amount to at the end of a block. -/
def laneSum (single : Vector Word 256) (l : Lanes) : Word :=
  adv single l.acc0 32 ^^^ adv single l.acc1 24 ^^^ adv single l.acc2 16 ^^^ adv single l.acc3 8

/-- The four words of the block at offset `p`, one a lane (R116). -/
def blockWords (data : List Byte) (p : Nat) : Lanes :=
  { acc0 := wordAt data p, acc1 := wordAt data (p + 8), acc2 := wordAt data (p + 16), acc3 := wordAt data (p + 24) }

/-- The fold is Horner's scheme for the sum of the words and the lanes (R120). -/
theorem foldLanes_eq_laneSum_xor (poly : Word) (data : List Byte) (p : Nat) (l : Lanes) :
    foldLanes (buildSingle poly) data p l
      = laneSum (buildSingle poly) (blockWords data p) ^^^ laneSum (buildSingle poly) l := by
  simp only [foldLanes, foldLane, laneSum, blockWords, adv_xor, ← adv_add, Nat.reduceAdd, BitVec.ofNat_eq_ofNat,
    BitVec.zero_xor]
  ac_rfl

/-- A wide-loop iteration advances what the fold at its block would give past one more block (R120). -/
theorem laneSum_wideStep (poly : Word) (data : List Byte) (p : Nat) (l : Lanes) :
    laneSum (buildSingle poly) (wideStep (buildWide (buildSingle poly)) data p l)
      = adv (buildSingle poly) (foldLanes (buildSingle poly) data p l) blockBytes := by
  rw [foldLanes_eq_laneSum_xor]
  simp only [laneSum, wideStep, blockWords, laneLookup_eq_adv, adv_xor, ← adv_add, blockBytes, Nat.reduceAdd]
  ac_rfl

/-- The word at an offset is the word at the front of the eight bytes from there on. -/
theorem wordAt_take_drop (data : List Byte) (p : Nat) : wordAt ((data.drop p).take 8) 0 = wordAt data p := by
  have hbyte : ∀ j < 8, byteAt ((data.drop p).take 8) j = byteAt data (p + j) := by
    intro j hj
    simp [byteAt, List.getElem?_take_of_lt hj]
  simp [wordAt, hbyte]

/-- Eight bytes of a buffer stepped through are its word there, merged as a lane whose accumulator is 0 (R100). -/
theorem stepBytes_eight (single : Vector Word 256) (c : Word) {data : List Byte} {p : Nat}
    (h : p + 8 ≤ data.length) :
    stepBytes single c ((data.drop p).take 8) = foldLane single c (wordAt data p) 0 := by
  have hlen : ((data.drop p).take 8).length = 8 := by simp; omega
  rw [stepBytes_eq_adv_xor_wordAt single c hlen.le, hlen, wordAt_take_drop, foldLane]
  simp

/-- A block stepped through byte by byte is the fold of lanes that hold the accumulator and nothing else. -/
theorem stepBytes_block (single : Vector Word 256) (c : Word) {data : List Byte} {p : Nat}
    (h : p + blockBytes ≤ data.length) :
    stepBytes single c ((data.drop p).take blockBytes) = foldLanes single data p (laneStart c) := by
  unfold blockBytes at *
  have hwords : (data.drop p).take 32
      = (data.drop p).take 8 ++ (data.drop (p + 8)).take 8 ++ (data.drop (p + 16)).take 8
        ++ (data.drop (p + 24)).take 8 := by
    simp only [← List.drop_drop, ← List.take_add]
  rw [hwords, stepBytes_append, stepBytes_append, stepBytes_append, stepBytes_eight _ _ (by omega),
    stepBytes_eight _ _ (by omega), stepBytes_eight _ _ (by omega), stepBytes_eight _ _ (by omega)]
  simp only [foldLanes, foldLane, laneStart, BitVec.ofNat_eq_ofNat, BitVec.xor_zero, BitVec.zero_xor]
  ac_rfl

/-! ### The lanes against the bytewise accumulator (R120) -/

/-- The lanes stand for the accumulator `c`: at the end of the block they amount to what `c` does. -/
def LanesHold (single : Vector Word 256) (l : Lanes) (c : Word) : Prop :=
  laneSum single l = adv single c blockBytes

theorem lanesHold_laneStart (poly c : Word) : LanesHold (buildSingle poly) (laneStart c) c := by
  simp [LanesHold, laneSum, laneStart, blockBytes]

/-- The fold sees the lanes only through the accumulator they stand for. -/
theorem foldLanes_of_lanesHold {poly c : Word} {data : List Byte} {p : Nat} {l : Lanes}
    (hl : LanesHold (buildSingle poly) l c) (h : p + blockBytes ≤ data.length) :
    foldLanes (buildSingle poly) data p l = stepBytes (buildSingle poly) c ((data.drop p).take blockBytes) := by
  rw [stepBytes_block _ _ h, foldLanes_eq_laneSum_xor, foldLanes_eq_laneSum_xor, lanesHold_laneStart, hl]

theorem wideStep_keeps_lanesHold {poly c : Word} {data : List Byte} {p : Nat} {l : Lanes}
    (hl : LanesHold (buildSingle poly) l c) (h : p + blockBytes ≤ data.length) :
    LanesHold (buildSingle poly) (wideStep (buildWide (buildSingle poly)) data p l)
      (stepBytes (buildSingle poly) c ((data.drop p).take blockBytes)) := by
  rw [LanesHold, laneSum_wideStep, foldLanes_of_lanesHold hl h]

theorem wideLoop_keeps_lanesHold {poly : Word} {data : List Byte} (k : Nat) {p : Nat} {l : Lanes} {c : Word}
    (hl : LanesHold (buildSingle poly) l c) (h : p + blockBytes * k ≤ data.length) :
    LanesHold (buildSingle poly) (wideLoop (buildWide (buildSingle poly)) data k p l)
      (stepBytes (buildSingle poly) c ((data.drop p).take (blockBytes * k))) := by
  induction k generalizing p l c with
  | zero => simpa [wideLoop, stepBytes] using hl
  | succ k ih =>
    rw [Nat.mul_succ] at h
    have hbytes : (data.drop p).take (blockBytes * (k + 1))
        = (data.drop p).take blockBytes ++ (data.drop (p + blockBytes)).take (blockBytes * k) := by
      rw [Nat.mul_succ, Nat.add_comm, List.take_add, List.drop_drop]
    rw [hbytes, stepBytes_append]
    exact ih (wideStep_keeps_lanesHold hl (by omega)) (by omega)

/-- The wide loop stops one block before the end of the aligned region, at the block the fold consumes (R115,
R117). -/
theorem stopOf_sub_blockBytes {n : Nat} (h : fastGateBytes ≤ n) :
    stopOf n - blockBytes = blockBytes * (stopOf n / blockBytes - 1)
      ∧ stopOf n - blockBytes + blockBytes = stopOf n := by
  simp only [stopOf, blockBytes, fastGateBytes] at *
  omega

/-- Behind the gate, the wide loop and the fold give the bytewise accumulator after the aligned region (R119). -/
theorem foldLanes_wideLoop (poly c : Word) {data : List Byte} (h : fastGateBytes ≤ data.length) :
    foldLanes (buildSingle poly) data (stopOf data.length - blockBytes)
        (wideLoop (buildWide (buildSingle poly)) data (stopOf data.length / blockBytes - 1) 0 (laneStart c))
      = stepBytes (buildSingle poly) c (data.take (stopOf data.length)) := by
  obtain ⟨hlast, hend⟩ := stopOf_sub_blockBytes h
  have hstop : stopOf data.length ≤ data.length := Nat.sub_le ..
  have hloop := wideLoop_keeps_lanesHold (data := data) (p := 0) (stopOf data.length / blockBytes - 1)
    (lanesHold_laneStart poly c) (by omega)
  rw [← hlast, List.drop_zero] at hloop
  rw [foldLanes_of_lanesHold hloop (hend.trans_le hstop), ← stepBytes_append, ← List.take_add, hend]

/-- Settles O44: below the gate both are the bytewise loop, and behind it the lanes carry the bytewise accumulator
to the end of the aligned region. -/
theorem fastPathEqualsBytewise : Obligations.FastPathEqualsBytewise := by
  intro poly data init
  rcases Nat.lt_or_ge data.length fastGateBytes with hshort | hlong
  · exact if_pos hshort
  · calc crc64Structured (buildTables poly) data init
        = complement (stepBytes (buildSingle poly)
            (foldLanes (buildSingle poly) data (stopOf data.length - blockBytes)
              (wideLoop (buildWide (buildSingle poly)) data (stopOf data.length / blockBytes - 1) 0
                (laneStart (complement init))))
            (data.drop (stopOf data.length))) := if_neg (Nat.not_lt.mpr hlong)
      _ = crc64 (buildSingle poly) data init := by
          rw [foldLanes_wideLoop _ _ hlong, ← stepBytes_append, List.take_append_drop, crc64]

end Sys2Proof.Proofs.Engine

/-! PROOFS. The combiner family (42_combiner.md): the powers of x span the words, so a law of the product that is
linear over XOR holds once it holds for them; the forms of `mulXN` and `combine` rest on that. -/

namespace Sys2Proof.Proofs.Combiner

open Sys2Proof Sys2Proof.Machine Sys2Proof.Proofs.TableSet Sys2Proof.Proofs.Engine

/-! ### Repeated `mulx` and the powers of x (R131, R135) -/

theorem mulxIter_add (poly : Word) (m n : Nat) (v : Word) :
    mulxIter poly (m + n) v = mulxIter poly n (mulxIter poly m v) := by
  induction m generalizing v with
  | zero => rw [Nat.zero_add, mulxIter]
  | succ m ih => rw [Nat.succ_add, mulxIter, ih, mulxIter]

theorem mulxIter_comm (poly : Word) (m n : Nat) (v : Word) :
    mulxIter poly m (mulxIter poly n v) = mulxIter poly n (mulxIter poly m v) := by
  rw [← mulxIter_add, ← mulxIter_add, Nat.add_comm]

theorem xpow_eq_mulxIter (poly : Word) (e : Nat) : xpow poly e = mulxIter poly e fieldOne := by
  induction e with
  | zero => rfl
  | succ e ih => rw [xpow, ih, mulxIter_add poly e 1, mulxIter, mulxIter]

/-- `mulx` moves a single bit above the lowest down one place: no reduction happens (R131). -/
theorem mulx_twoPow_succ (poly : Word) {k : Nat} (hk : k + 1 < 64) :
    mulx poly (BitVec.twoPow 64 (k + 1)) = BitVec.twoPow 64 k := by
  ext i hi
  simp [mulx, BitVec.getElem_twoPow, hk, Nat.add_comm 1 i, eq_comm]

theorem xpow_eq_twoPow (poly : Word) {e : Nat} (he : e ≤ 63) : xpow poly e = BitVec.twoPow 64 (63 - e) := by
  induction e with
  | zero => rfl
  | succ e ih =>
    have hbit : 63 - e = 63 - (e + 1) + 1 := by omega
    rw [xpow, ih (by omega), hbit, mulx_twoPow_succ poly (by omega)]

theorem xpow_one (poly : Word) : xpow poly 1 = 0x4000000000000000 := xpow_eq_twoPow poly (by decide)

/-- The bit of x^63 is the lowest one, so the next `mulx` shifts it out and leaves the polynomial (R131). -/
theorem xpow_sixtyFour (poly : Word) : xpow poly 64 = poly := by
  have hlow : BitVec.twoPow 64 (63 - 63) = 1#64 := by decide
  rw [xpow, xpow_eq_twoPow poly (Nat.le_refl 63), hlow]
  simp [mulx]

/-! ### The powers of x span the words (R130) -/

/-- The low `k + 1` bits of a word are its low `k` bits and bit `k`. -/
theorem setWidth_setWidth_succ_eq_xor (b : Word) (k : Nat) :
    (b.setWidth (k + 1)).setWidth 64
      = (b.setWidth k).setWidth 64 ^^^ (if b.getLsbD k then BitVec.twoPow 64 k else 0#64) := by
  ext i hi
  rcases Nat.lt_trichotomy i k with h | rfl | h
  · cases b.getLsbD k <;> simp [h, h.ne, Nat.lt_succ_of_lt h, BitVec.getElem_twoPow]
  · cases hb : b[i] <;> simp [hb, BitVec.getElem_twoPow, BitVec.getLsbD_eq_getElem, hi]
  · cases b.getLsbD k <;> simp [h.not_gt, h.ne', Nat.not_le_of_lt h, BitVec.getElem_twoPow]

/-- The powers of x up to 63 are the single bits, so a property closed under XOR that holds for them holds for
every word, whatever `POLY` is (R130). -/
theorem xpow_induction (poly : Word) {P : Word → Prop} (zero : P 0#64) (pow : ∀ e ≤ 63, P (xpow poly e))
    (xor : ∀ u v, P u → P v → P (u ^^^ v)) (b : Word) : P b := by
  have hbit : ∀ k ≤ 63, P (BitVec.twoPow 64 k) := by
    intro k hk
    have hpow := pow (63 - k) (Nat.sub_le ..)
    rwa [xpow_eq_twoPow poly (Nat.sub_le ..), Nat.sub_sub_self hk] at hpow
  have hlow : ∀ k ≤ 64, P ((b.setWidth k).setWidth 64) := by
    intro k hk
    induction k with
    | zero => rwa [BitVec.of_length_zero (x := b.setWidth 0)]
    | succ k ih =>
      rw [setWidth_setWidth_succ_eq_xor]
      refine xor _ _ (ih (by omega)) ?_
      split
      · exact hbit k (by omega)
      · exact zero
  simpa using hlow 64 (Nat.le_refl 64)

/-! ### What the loop of `gf2mul` computes (R133) -/

/-- One iteration of the loop adds the current shift of `a` as often as the bit of `b` says (R133). -/
theorem gf2mulLoop_succ (poly b : Word) (k : Nat) (a r : Word) :
    gf2mulLoop poly b (k + 1) a r
      = gf2mulLoop poly b k (mulx poly a) (r ^^^ (if b.getLsbD k then a else 0#64)) := by
  cases hb : b.getLsbD k <;> simp [gf2mulLoop, hb]

theorem ite_xor_eq_xor_ite (p q : Bool) (a : Word) :
    (if p ^^ q then a else 0#64) = (if p then a else 0#64) ^^^ (if q then a else 0#64) := by
  cases p <;> cases q <;> simp

theorem gf2mulLoop_xor (poly b c : Word) (k : Nat) (a r s : Word) :
    gf2mulLoop poly (b ^^^ c) k a (r ^^^ s) = gf2mulLoop poly b k a r ^^^ gf2mulLoop poly c k a s := by
  induction k generalizing a r s with
  | zero => rfl
  | succ k ih =>
    rw [gf2mulLoop_succ, gf2mulLoop_succ, gf2mulLoop_succ, ← ih, BitVec.getLsbD_xor, ite_xor_eq_xor_ite]
    congr 1
    ac_rfl

/-- With a single bit `j` in the multiplier the loop adds `a` once, after the shifts that come before that bit. -/
theorem gf2mulLoop_twoPow (poly : Word) (j k : Nat) (a r : Word) (hj : j < 64) :
    gf2mulLoop poly (BitVec.twoPow 64 j) k a r = if j < k then r ^^^ mulxIter poly (k - 1 - j) a else r := by
  induction k generalizing a r with
  | zero => rfl
  | succ k ih =>
    rw [gf2mulLoop_succ, ih, BitVec.getLsbD_twoPow]
    rcases Nat.lt_trichotomy j k with h | rfl | h
    · have hshift : k + 1 - 1 - j = (k - 1 - j) + 1 := by omega
      rw [hshift, mulxIter]
      simp [h, h.ne, Nat.lt_succ_of_lt h]
    · simp [hj, mulxIter]
    · simp [h.not_gt, h.ne', Nat.not_lt.mpr h]

theorem gf2mul_xor_right (poly a b c : Word) : gf2mul poly a (b ^^^ c) = gf2mul poly a b ^^^ gf2mul poly a c :=
  gf2mulLoop_xor poly b c 64 a 0 0

@[simp] theorem gf2mul_zero_right (poly a : Word) : gf2mul poly a 0#64 = 0#64 := by
  simpa using gf2mul_xor_right poly a 0#64 0#64

/-- The product with a power of x that is a single bit (R133, R135). -/
theorem gf2mul_xpow_of_le (poly a : Word) {e : Nat} (he : e ≤ 63) :
    gf2mul poly a (xpow poly e) = mulxIter poly e a := by
  have hbit : 63 - e < 64 := by omega
  rw [xpow_eq_twoPow poly he, gf2mul, gf2mulLoop_twoPow poly _ _ _ _ hbit, if_pos hbit]
  have hshift : 64 - 1 - (63 - e) = e := by omega
  simp [hshift]

/-! ### The ring laws (R136) -/

theorem gf2mul_mulxIter_left (poly a b : Word) (n : Nat) :
    gf2mul poly (mulxIter poly n a) b = mulxIter poly n (gf2mul poly a b) := by
  induction b using xpow_induction poly with
  | zero => simp
  | pow e he => rw [gf2mul_xpow_of_le poly _ he, gf2mul_xpow_of_le poly _ he, mulxIter_comm]
  | xor u v hu hv => rw [gf2mul_xor_right, gf2mul_xor_right, mulxIter_xor, hu, hv]

theorem gf2mul_xor_left (poly a b c : Word) : gf2mul poly (a ^^^ b) c = gf2mul poly a c ^^^ gf2mul poly b c := by
  induction c using xpow_induction poly with
  | zero => simp
  | pow e he => simp only [gf2mul_xpow_of_le poly _ he, mulxIter_xor]
  | xor u v hu hv =>
    rw [gf2mul_xor_right, gf2mul_xor_right, gf2mul_xor_right, hu, hv]
    ac_rfl

@[simp] theorem gf2mul_zero_left (poly b : Word) : gf2mul poly 0#64 b = 0#64 := by
  simpa using gf2mul_xor_left poly 0#64 0#64 b

theorem fieldOne_gf2mul (poly b : Word) : gf2mul poly fieldOne b = b := by
  induction b using xpow_induction poly with
  | zero => exact gf2mul_zero_right poly fieldOne
  | pow e he => rw [gf2mul_xpow_of_le poly _ he, xpow_eq_mulxIter]
  | xor u v hu hv => rw [gf2mul_xor_right, hu, hv]

/-- The product with a power of x on the left, for every exponent: `mulx` reduces as it goes. -/
theorem xpow_gf2mul (poly b : Word) (e : Nat) : gf2mul poly (xpow poly e) b = mulxIter poly e b := by
  rw [xpow_eq_mulxIter, gf2mul_mulxIter_left, fieldOne_gf2mul]

theorem gf2mul_comm (poly a b : Word) : gf2mul poly a b = gf2mul poly b a := by
  induction b using xpow_induction poly with
  | zero => rw [gf2mul_zero_right, gf2mul_zero_left]
  | pow e he => rw [gf2mul_xpow_of_le poly a he, xpow_gf2mul]
  | xor u v hu hv => rw [gf2mul_xor_right, gf2mul_xor_left, hu, hv]

theorem gf2mul_xpow (poly a : Word) (e : Nat) : gf2mul poly a (xpow poly e) = mulxIter poly e a := by
  rw [gf2mul_comm, xpow_gf2mul]

theorem gf2mul_mulxIter_right (poly a b : Word) (n : Nat) :
    gf2mul poly a (mulxIter poly n b) = mulxIter poly n (gf2mul poly a b) := by
  rw [gf2mul_comm, gf2mul_mulxIter_left, gf2mul_comm]

theorem gf2mul_assoc (poly a b c : Word) :
    gf2mul poly (gf2mul poly a b) c = gf2mul poly a (gf2mul poly b c) := by
  induction c using xpow_induction poly with
  | zero => simp only [gf2mul_zero_right]
  | pow e he => rw [gf2mul_xpow, gf2mul_xpow, gf2mul_mulxIter_right]
  | xor u v hu hv => simp only [gf2mul_xor_right, hu, hv]

/-- Settles O47: every law is linear in the operand it is proved over, and holds for the powers of x. -/
theorem gf2mulRing : Obligations.Gf2mulRing := fun poly a b c =>
  ⟨gf2mul_comm poly a b, gf2mul_assoc poly a b c, gf2mul_xor_left poly a b c, gf2mul_xpow poly a 0,
    gf2mul_zero_right poly a, xpow_one poly ▸ gf2mul_xpow poly a 1⟩

theorem xpow_add (poly : Word) (e1 e2 : Nat) :
    xpow poly (e1 + e2) = gf2mul poly (xpow poly e1) (xpow poly e2) := by
  rw [gf2mul_xpow, xpow_eq_mulxIter, xpow_eq_mulxIter, mulxIter_add]

/-- Settles O46: up to 63 a power of x is a single bit, which `mulx` moves down, and exponents count the `mulx`. -/
theorem xpowLaws : Obligations.XpowLaws := by
  intro poly
  refine ⟨rfl, fun _ => rfl, fun e he j hj => ?_, xpow_sixtyFour poly, xpow_add poly⟩
  rw [xpow_eq_twoPow poly he, BitVec.getLsbD_twoPow]
  have hbit : 63 - e < 64 := by omega
  simp [hbit, eq_comm]

/-! ### Eight `mulx` and the zero step (R132) -/

/-- With the lowest bit zero, `mulx` is a plain shift (R131). -/
theorem mulx_shiftRight_shiftLeft_succ (poly v : Word) (k : Nat) :
    mulx poly (v >>> (k + 1) <<< (k + 1)) = v >>> 1 >>> k <<< k := by
  ext i hi
  rcases Nat.lt_or_ge i k with h | h
  · simp [mulx, h, Nat.add_comm 1 i]
  · have hindex : k + 1 + (i - k) = i + 1 := by omega
    simp [mulx, h.not_gt, Nat.add_comm 1 i, hindex, Nat.add_sub_cancel' h]
    exact BitVec.lt_of_getLsbD

/-- While the low bits are zero, nothing is reduced: `k` steps only shift (R132). -/
theorem mulxIter_shiftRight_shiftLeft (poly v : Word) (k : Nat) : mulxIter poly k (v >>> k <<< k) = v >>> k := by
  induction k generalizing v with
  | zero => simp [mulxIter]
  | succ k ih =>
    rw [mulxIter, mulx_shiftRight_shiftLeft_succ, ih, ← BitVec.shiftRight_add, Nat.add_comm]

/-- A word is its high 56 bits and its low byte (R132). -/
theorem shiftRight_shiftLeft_xor_setWidth (v : Word) : v >>> 8 <<< 8 ^^^ (v.setWidth 8).setWidth 64 = v := by
  ext i hi
  rcases Nat.lt_or_ge i 8 with h | h
  · simp [h, BitVec.getLsbD_eq_getElem, hi]
  · simp [h.not_gt, Nat.add_sub_cancel' h, BitVec.getLsbD_eq_getElem, hi]

theorem zeroStep_eq (poly v : Word) :
    zeroStep (buildSingle poly) v = v >>> 8 ^^^ lookup (buildSingle poly) (v.setWidth 8) := by
  simp [zeroStep, byteStep]

/-- The high part is only shifted, and on the low byte `mulx8` is the entry of `single` by definition (R132). -/
theorem mulx8_eq_zeroStep (poly v : Word) : mulx8 poly v = zeroStep (buildSingle poly) v := by
  calc mulx8 poly v
      = mulx8 poly (v >>> 8 <<< 8) ^^^ mulx8 poly ((v.setWidth 8).setWidth 64) := by
        rw [← mulx8_xor, shiftRight_shiftLeft_xor_setWidth]
    _ = v >>> 8 ^^^ lookup (buildSingle poly) (v.setWidth 8) := by
        rw [lookup_buildSingle, singleEntry_toNat, mulx8, mulxIter_shiftRight_shiftLeft]
    _ = zeroStep (buildSingle poly) v := (zeroStep_eq poly v).symm

/-- Settles O45: the word splits into a part that is only shifted and a byte that `single` answers. -/
theorem mulxEightIsZeroStep : Obligations.MulxEightIsZeroStep := fun poly v =>
  ⟨mulx8_eq_zeroStep poly v, zeroStep_eq poly v, (gf2mul_xpow poly v 8).symm⟩

/-! ### The two forms of `mulXN` (R141 to R143) -/

/-- Settles O50: they are the laws of `adv`, since `mulXN` is `n` zero steps. -/
theorem mulXNLaws : Obligations.MulXNLaws := fun poly u v n1 n2 =>
  ⟨rfl, adv_zero poly n1, (adv_add (buildSingle poly) v n1 n2).symm, adv_xor poly u v n1⟩

/-- `n` zero steps are `8 * n` applications of `mulx`, the exponent a natural number that never wraps (R141, R144). -/
theorem mulXNIter_eq_mulxIter (poly v : Word) (n : Nat) :
    mulXNIter (buildSingle poly) v n = mulxIter poly (8 * n) v := by
  induction n with
  | zero => rfl
  | succ n ih =>
    calc mulXNIter (buildSingle poly) v (n + 1)
        = zeroStep (buildSingle poly) (mulXNIter (buildSingle poly) v n) := rfl
      _ = mulxIter poly (8 * (n + 1)) v := by
          rw [ih, ← mulx8_eq_zeroStep, mulx8, ← mulxIter_add, Nat.mul_succ]

theorem ladderConst_zero (poly : Word) : ladderConst poly 0 = xpow poly 8 := by
  rw [xpow_eq_twoPow poly (by decide)]
  rfl

/-- The bits of `n` from bit `k` on are bit `k` and the bits above it. -/
theorem shiftRight_mod_pow_succ (n k steps : Nat) :
    n >>> k % 2 ^ (steps + 1) = (n.testBit k).toNat + 2 * (n >>> (k + 1) % 2 ^ steps) := by
  rw [Nat.pow_succ', Nat.mod_mul, Nat.toNat_testBit, Nat.shiftRight_succ, Nat.shiftRight_eq_div_pow]

/-- What the ladder has left to do from bit `k` on is to multiply by the power its remaining bits of `n` stand for. -/
theorem ladderLoop_eq_mulxIter (poly : Word) (n steps k : Nat) (r : Word) :
    ladderLoop poly n steps k (xpow poly (8 * 2 ^ k)) r
      = mulxIter poly (8 * 2 ^ k * (n >>> k % 2 ^ steps)) r := by
  induction steps generalizing k r with
  | zero => simp [ladderLoop, Nat.mod_one, mulxIter]
  | succ steps ih =>
    have hsquare : gf2mul poly (xpow poly (8 * 2 ^ k)) (xpow poly (8 * 2 ^ k)) = xpow poly (8 * 2 ^ (k + 1)) := by
      rw [← xpow_add]
      congr 1
      omega
    have hexp : 8 * 2 ^ k * (n >>> k % 2 ^ (steps + 1))
        = 8 * 2 ^ k * (n.testBit k).toNat + 8 * 2 ^ (k + 1) * (n >>> (k + 1) % 2 ^ steps) := by
      rw [shiftRight_mod_pow_succ]
      ring
    rw [ladderLoop, hsquare, ih, gf2mul_xpow, hexp, mulxIter_add]
    cases n.testBit k <;> simp [mulxIter]

/-- Settles O51: both forms are `8 * n` applications of `mulx`, the ladder by the bits of `n`, all 63 of them. -/
theorem ladderEqualsIterated : Obligations.LadderEqualsIterated := by
  intro poly v n hn
  rw [mulXNLadder, ladderConst_zero, mulXNIter_eq_mulxIter]
  have hloop := ladderLoop_eq_mulxIter poly n 63 0 v
  rwa [Nat.shiftRight_zero, Nat.mod_eq_of_lt hn] at hloop

/-! ### `combine` (R146 to R148) -/

/-- Two accumulators stepped through the same bytes differ by their first difference, advanced past as many zero
bytes (R147). -/
theorem stepBytes_xor_stepBytes (poly : Word) (bytes : List Byte) (c d : Word) :
    stepBytes (buildSingle poly) c bytes ^^^ stepBytes (buildSingle poly) d bytes
      = adv (buildSingle poly) (c ^^^ d) bytes.length := by
  induction bytes generalizing c d with
  | nil => rfl
  | cons b bs ih =>
    calc stepBytes (buildSingle poly) (byteStep (buildSingle poly) c b) bs
          ^^^ stepBytes (buildSingle poly) (byteStep (buildSingle poly) d b) bs
        = adv (buildSingle poly) (byteStep (buildSingle poly) c b ^^^ byteStep (buildSingle poly) d b) bs.length :=
          ih ..
      _ = adv (buildSingle poly) (zeroStep (buildSingle poly) (c ^^^ d)) bs.length := by
          rw [← byteStep_xor, BitVec.xor_self]
          rfl
      _ = adv (buildSingle poly) (c ^^^ d) (bs.length + 1) := (adv_succ_eq_adv_zeroStep ..).symm

theorem complement_xor_complement (u v : Word) : complement u ^^^ complement v = u ^^^ v := by
  rw [complement, complement, BitVec.xor_comm v, ← BitVec.xor_assoc, xor_cancel_right]

theorem complement_xor (u v : Word) : complement u ^^^ v = complement (u ^^^ v) := by
  rw [complement, complement]
  ac_rfl

/-- The CRCs of one sequence under two seeds differ by the seeds' difference, advanced past its length (R147). -/
theorem crc64_xor_crc64 (poly : Word) (bytes : List Byte) (s t : Word) :
    crc64 (buildSingle poly) bytes s ^^^ crc64 (buildSingle poly) bytes t
      = mulXNIter (buildSingle poly) (s ^^^ t) bytes.length := by
  rw [crc64, crc64, complement_xor_complement, stepBytes_xor_stepBytes, complement_xor_complement, mulXNIter]

theorem crc64_append (single : Vector Word 256) (A B : List Byte) (s : Word) :
    crc64 single (A ++ B) s = crc64 single B (crc64 single A s) := by
  simp only [crc64, complement_complement, stepBytes_append]

/-- The six steps without the test of step 2, and without the complements, which cancel (R146, R149). -/
theorem combineWith_mulXNIter (poly iAB iA fA iB fB : Word) (lA lB : Nat) :
    combineWith (mulXNIter (buildSingle poly)) iAB iA fA lA iB fB lB
      = mulXNIter (buildSingle poly) (fA ^^^ mulXNIter (buildSingle poly) (iA ^^^ iAB) lA ^^^ iB) lB ^^^ fB := by
  have hsteps : combineWith (mulXNIter (buildSingle poly)) iAB iA fA lA iB fB lB
      = mulXNIter (buildSingle poly)
          (complement fA ^^^ mulXNIter (buildSingle poly) (iA ^^^ iAB) lA ^^^ complement iB) lB ^^^ fB := by
    rcases eq_or_ne iA iAB with rfl | hne
    · simp [combineWith, complement, mulXNIter]
    · simp [combineWith, complement, hne]
  rw [hsteps, complement_xor, complement_xor_complement]

/-- Step 2 exchanges the seed of `A`'s CRC, and steps 3 to 5 exchange that of `B`'s for `A`'s CRC (R147, R148). -/
theorem combineWith_crc64 (poly : Word) (A B : List Byte) (s1 s2 s3 : Word) :
    combineWith (mulXNIter (buildSingle poly)) s1 s2 (crc64 (buildSingle poly) A s2) A.length
        s3 (crc64 (buildSingle poly) B s3) B.length
      = crc64 (buildSingle poly) (A ++ B) s1 := by
  rw [combineWith_mulXNIter, ← crc64_xor_crc64 poly A, xor_cancel_left, ← crc64_xor_crc64, xor_cancel_right,
    crc64_append]

/-- Settles O52: a grouped pair is a true CRC itself, so both groupings are two uses of the pair's law. -/
theorem combineCorrect : Obligations.CombineCorrect := by
  intro poly A B C s1 s2 s3
  refine ⟨combineWith_crc64 poly A B s1 s2 s3, crc64_append _ A B s1, ?_, ?_⟩
  · rw [combineWith_crc64, ← List.length_append, combineWith_crc64]
  · rw [combineWith_crc64, ← List.length_append, combineWith_crc64, List.append_assoc]

end Sys2Proof.Proofs.Combiner

/-! PROOFS. The exceptions family (60_exceptions.md): what a dead block still does, and what it keeps until a
reset. -/

namespace Sys2Proof.Proofs.Exceptions

open Sys2Proof Sys2Proof.Machine Sys2Proof.Safety

/-! ### Launches at a dead block -/

theorem exec_dead (i : Instr) {s : State} (h : s.fatal = true) : exec i s = .next s := by
  obtain ⟨check, work, hlaunch, -⟩ := exec_launch i
  exact (hlaunch s).trans (launch_dead h)

theorem launchIllegal_dead (w : Word) {s : State} (h : s.fatal = true) : launchIllegal w s = s := if_pos h

/-- A dead block ignores every write to `CMD`, whether the word selects a command or not (R168). -/
theorem launchWord_dead (w : Word) {s : State} (h : s.fatal = true) : launchWord w s = .next s := by
  cases hw : decode w with
  | ok i => simp [launchWord, hw, exec_dead i h]
  | error e => simp [launchWord, hw, launchIllegal_dead w h]

/-! ### The other transactions, at any block -/

theorem hostWrite_arg (m : Fin 7) (v : Word) (s : State) : hostWrite (3 + m) v s = .next (writeArg m v s) := by
  rw [Nat.add_comm 3]
  exact congrArg Host.Outcome.next (if_pos m.isLt)

/-- There is a register at every index below 10 (R21, R22). -/
theorem exists_readReg_eq_some (s : State) {reg : Nat} (h : reg < 10) : ∃ v, readReg s reg = some v := by
  match reg with
  | 0 => exact ⟨s.cmd, rfl⟩
  | 1 => exact ⟨statusWord s, rfl⟩
  | 2 => exact ⟨s.result, rfl⟩
  | m + 3 =>
    have hm : m < 7 := by omega
    exact ⟨s.args[m], Vector.getElem?_eq_getElem hm⟩

theorem hostRead_of_readReg {s : State} {reg : Nat} {v : Word} (h : readReg s reg = some v) :
    hostRead reg s = .next (noteRead v s) := by
  simp [hostRead, h]

/-- A read that answers has noted a register's value. -/
theorem eq_noteRead_of_hostRead {s t : State} {reg : Nat} (h : hostRead reg s = .next t) :
    ∃ v, t = noteRead v s := by
  cases hv : readReg s reg with
  | none => simp [hostRead, hv] at h
  | some v => exact ⟨v, by simpa [hostRead, hv] using h.symm⟩

@[simp] theorem resetBlock_tableBuildOk (ok : Bool) (s : State) : (resetBlock ok s).tableBuildOk = ok := by
  rcases resetBlock_cases ok s with ⟨-, h⟩ | ⟨-, -, h⟩ | ⟨-, -, h⟩ <;> simp [h]

/-- Only a failing draw makes a block dead at its reset (R182). -/
@[simp] theorem resetBlock_true_fatal (s : State) : (resetBlock true s).fatal = false := by
  rcases resetBlock_cases true s with ⟨-, h⟩ | ⟨-, -, h⟩ | ⟨-, hok, -⟩
  · simp [h]
  · simp [h]
  · exact absurd hok (by decide)

/-! ### What a dead block keeps until the reset -/

/-- `CMD`, `CAUSE` and the flags but `TBL_READY` are as they were: what a launch would write. -/
def KeepsLaunchRecord (s t : State) : Prop :=
  t.fatal = s.fatal ∧ t.cmd = s.cmd ∧ t.valid = s.valid ∧ t.err = s.err ∧ t.cause = s.cause

theorem keepsLaunchRecord_refl (s : State) : KeepsLaunchRecord s s := ⟨rfl, rfl, rfl, rfl, rfl⟩

theorem keepsLaunchRecord_writeArg (m : Nat) (v : Word) (s : State) : KeepsLaunchRecord s (writeArg m v s) :=
  ⟨rfl, rfl, rfl, rfl, rfl⟩

theorem keepsLaunchRecord_noteRead (v : Word) (s : State) : KeepsLaunchRecord s (noteRead v s) :=
  ⟨rfl, rfl, rfl, rfl, rfl⟩

theorem keepsLaunchRecord_bindData (bytes : List Byte) (s : State) : KeepsLaunchRecord s (bindData bytes s) :=
  ⟨rfl, rfl, rfl, rfl, rfl⟩

theorem hostWrite_dead_keepsLaunchRecord {reg : Nat} {v : Word} {s t : State} (hf : s.fatal = true)
    (h : hostWrite reg v s = .next t) : KeepsLaunchRecord s t := by
  match reg with
  | 0 =>
    obtain rfl : s = t := by simpa [hostWrite, launchWord_dead v hf] using h
    exact keepsLaunchRecord_refl s
  | 1 | 2 =>
    obtain rfl : s = t := by simpa [hostWrite] using h
    exact keepsLaunchRecord_refl s
  | m + 3 =>
    obtain rfl : (if m < 7 then writeArg m v s else s) = t := by simpa [hostWrite] using h
    split
    · exact keepsLaunchRecord_writeArg m v s
    · exact keepsLaunchRecord_refl s

theorem transact_dead_keepsLaunchRecord {txn : HostTxn} {s t : State} (hf : s.fatal = true)
    (hreset : ∀ ok, txn ≠ .reset ok) (h : transact txn s = .next t) : KeepsLaunchRecord s t := by
  cases txn with
  | wr reg v => exact hostWrite_dead_keepsLaunchRecord hf h
  | rd reg =>
    obtain ⟨v, rfl⟩ := eq_noteRead_of_hostRead h
    exact keepsLaunchRecord_noteRead v s
  | bind bytes =>
    obtain rfl : bindData bytes s = t := by simpa [transact] using h
    exact keepsLaunchRecord_bindData bytes s
  | reset ok => exact absurd rfl (hreset ok)

/-- Every step of a dead block but a reset keeps the record of its death (R168). -/
theorem step_dead_keepsLaunchRecord {s t : State} (hf : s.fatal = true)
    (hreset : ∀ ok rest, s.pending ≠ .reset ok :: rest) (h : step s = .next t) : KeepsLaunchRecord s t := by
  cases hp : s.pending with
  | nil =>
    obtain rfl : s = t := by simpa [step_idle hp] using h
    exact keepsLaunchRecord_refl s
  | cons txn rest =>
    have htxn : ∀ ok, txn ≠ .reset ok := fun ok htxn => hreset ok rest (htxn ▸ hp)
    rw [step_pending hp] at h
    exact transact_dead_keepsLaunchRecord (s := popPending rest s) hf htxn h

theorem cause_of_invariant_of_fatal {s : State} (hinv : Invariant s) (hf : s.fatal = true) :
    s.cause = .tableBuildFailure := by
  obtain ⟨⟨-, -, hcause, -⟩, -⟩ := hinv
  exact hcause.mp hf

/-- Settles O17: the first five clauses are the transactions one by one, the last is the kept record. -/
theorem deadBlockIgnoresLaunches : Obligations.DeadBlockIgnoresLaunches := by
  unfold Obligations.DeadBlockIgnoresLaunches
  refine ⟨fun s rest hf => ⟨fun w hp => ?launch, fun m v hp => ?writeArg, fun reg hreg hp => ?read,
    fun bytes hp => ?bind, fun ok hp => ?reset⟩, fun s t hf hreset hstep => ?keeps⟩
  case launch => exact (step_pending hp).trans (launchWord_dead w (s := popPending rest s) hf)
  case writeArg => exact ⟨_, (step_pending hp).trans (hostWrite_arg m v _), by simp⟩
  case read =>
    obtain ⟨v, hv⟩ := exists_readReg_eq_some s hreg
    exact ⟨v, hv, (step_pending hp).trans (hostRead_of_readReg (s := popPending rest s) hv)⟩
  case bind => exact ⟨_, step_pending hp, by simp⟩
  case reset =>
    refine ⟨_, step_pending hp, resetBlock_tableBuildOk ok _, ?_⟩
    rintro rfl
    exact resetBlock_true_fatal _
  case keeps =>
    obtain ⟨hfatal, hcmd, hvalid, herr, hcause⟩ := step_dead_keepsLaunchRecord hf hreset hstep
    exact ⟨hfatal.trans hf, hcmd, hvalid, herr, hcause,
      fun hinv => hcause.trans (cause_of_invariant_of_fatal hinv hf)⟩

end Sys2Proof.Proofs.Exceptions

/-! PROOFS. The decoder (30_encoding.md): each command has one word, and the opcode table is those words. -/

namespace Sys2Proof.Proofs.Decoding

open Sys2Proof Sys2Proof.Machine Sys2Proof.Proofs.Encoding

/-! ### The word of a command -/

/-- The command's word decodes to the command (R72, R74). -/
@[simp] theorem decode_encode (i : Instr) : decode (encode i) = .ok i := by
  cases i <;> rfl

theorem encode_injective {i j : Instr} (h : encode i = encode j) : i = j := by
  have hdecode : decode (encode i) = decode (encode j) := congrArg decode h
  simpa using hdecode

theorem opcode_of_decodeOpcode_eq_ok {op : Byte} {i : Instr} (h : decodeOpcode op = .ok i) :
    op = opcodeField (encode i) := by
  unfold decodeOpcode at h
  split_ifs at h <;> cases h <;> assumption

/-- A word with no bit set above its opcode is determined by the opcode (R71). -/
theorem eq_of_zeroField_eq_zero {v w : Word} (hv : zeroField v = 0) (hw : zeroField w = 0)
    (hop : opcodeField v = opcodeField w) : v = w := by
  simp only [zeroField, opcodeField, ← BitVec.toNat_inj, BitVec.extractLsb'_toNat] at hv hw hop
  simp at hv hw hop
  bv_omega

theorem decode_eq_ok_iff (w : Word) (i : Instr) : decode w = .ok i ↔ w = encode i := by
  refine ⟨fun h => ?_, fun h => h ▸ decode_encode i⟩
  have hzero : zeroField w = 0 := by
    by_contra hz
    have herr : decode w = .error .zeroFieldSet := if_pos hz
    simp [herr] at h
  have hop : decodeOpcode (opcodeField w) = .ok i := by simpa [decode, hzero] using h
  have hi : zeroField (encode i) = 0 := by cases i <;> rfl
  exact eq_of_zeroField_eq_zero hzero hi (opcode_of_decodeOpcode_eq_ok hop)

/-- The illegal words by their numbers (R73). -/
theorem illegalWord_iff_toNat (w : Word) :
    IllegalWord w ↔ w.toNat / 256 ≠ 0 ∨ w.toNat % 256 = 0 ∨ w.toNat % 256 ≥ 8 := by
  have hzero : (zeroField w).toNat = w.toNat / 256 := by
    rw [zeroField, BitVec.extractLsb'_toNat, Nat.shiftRight_eq_div_pow]
    omega
  have hop : (opcodeField w).toNat = w.toNat % 256 := by
    rw [opcodeField, BitVec.extractLsb'_toNat, Nat.shiftRight_zero]
  rw [IllegalWord, hop, ← hzero, ne_eq, ← BitVec.toNat_inj, ← BitVec.toNat_inj, hop]
  rfl

theorem exists_decode_eq_error_iff (w : Word) : (∃ e, decode w = .error e) ↔ IllegalWord w := by
  refine ⟨?_, decode_of_illegalWord⟩
  rintro ⟨e, he⟩
  by_contra hw
  obtain ⟨i, hi⟩ := decode_of_not_illegalWord hw
  simp [hi] at he

/-- Settles O2: the opcode and the zero field together are the whole word. -/
theorem decodeExactlyTheSevenWords : Obligations.DecodeExactlyTheSevenWords := fun w =>
  ⟨decode_eq_ok_iff w, (exists_decode_eq_error_iff w).trans (illegalWord_iff_toNat w)⟩

/-! ### The opcode table -/

/-- Every row of the table masks nothing out and is the word of its command (R72). -/
theorem eq_encode_of_mem_opcodeTable {r : OpcodeRow} (h : r ∈ opcodeTable) :
    r = ⟨BitVec.allOnes 64, encode r.instr, r.instr⟩ := by
  have hall : ∀ r ∈ opcodeTable, r = ⟨BitVec.allOnes 64, encode r.instr, r.instr⟩ := by decide
  exact hall r h

theorem selects_iff_of_mem_opcodeTable {r : OpcodeRow} (h : r ∈ opcodeTable) (w : Word) :
    r.selects w = true ↔ w = encode r.instr := by
  rw [eq_encode_of_mem_opcodeTable h, OpcodeRow.selects, BitVec.and_allOnes, beq_iff_eq]

theorem decodeByTable_eq_some_iff (w : Word) (i : Instr) : decodeByTable w = some i ↔ w = encode i := by
  constructor
  · intro h
    obtain ⟨r, hfind, rfl⟩ : ∃ r, opcodeTable.find? (fun r => r.selects w) = some r ∧ r.instr = i := by
      simpa [decodeByTable] using h
    have hselects : r.selects w = true := List.find?_some (p := fun r : OpcodeRow => r.selects w) hfind
    exact (selects_iff_of_mem_opcodeTable (List.mem_of_find?_eq_some hfind) w).mp hselects
  · rintro rfl
    cases i <;> rfl

/-- Settles O3: both decoders answer `i` for the word of `i` alone, and the row is determined by that word. -/
theorem tableDecoderAgrees : Obligations.TableDecoderAgrees := by
  refine ⟨fun w => Option.ext fun i => ?_, fun w r hr r' hr' hw hw' => ?_⟩
  · have hok : (decode w).toOption = some i ↔ decode w = .ok i := by
      cases decode w <;> simp [Except.toOption]
    rw [decodeByTable_eq_some_iff, hok, decode_eq_ok_iff]
  · have hi : encode r.instr = encode r'.instr :=
      ((selects_iff_of_mem_opcodeTable hr w).mp hw).symm.trans ((selects_iff_of_mem_opcodeTable hr' w).mp hw')
    rw [eq_encode_of_mem_opcodeTable hr, eq_encode_of_mem_opcodeTable hr', encode_injective hi]

/-- Settles O1 by running the decoder on the eight words. -/
theorem decodeSanity : Obligations.DecodeSanity :=
  ⟨rfl, rfl, rfl, rfl, rfl, rfl, rfl, rfl⟩

end Sys2Proof.Proofs.Decoding

/-! PROOFS. The launch layer (60_exceptions.md R169): every command is one launch with the operand check of
`Safety.operandCheck`, and what it answers is said once, as `LaunchEnd`. -/

namespace Sys2Proof.Proofs.Launch

open Sys2Proof Sys2Proof.Machine Sys2Proof.Safety Sys2Proof.Proofs.Exceptions

/-! ### What table construction leaves alone -/

/-- A field that neither construction nor death touches is as it was (R101, R167). -/
theorem ensureTables_field {α : Type} (field : State → α) (hconstruct : ∀ s, field (construct s) = field s)
    (hfatal : ∀ s, field (raiseFatal s) = field s) (s : State) : field (ensureTables s) = field s := by
  rcases ensureTables_cases s with ⟨-, h⟩ | ⟨-, -, h⟩ | ⟨-, -, h⟩ <;> rw [h]
  · exact hconstruct s
  · exact hfatal s

/-- The flags but `TBL_READY` and `FATAL`, at a block where construction does not fail (R102). -/
theorem ensureTables_flags {s : State} (hb : CanBuild s) :
    (ensureTables s).tblReady = true ∧ (ensureTables s).fatal = s.fatal ∧ (ensureTables s).valid = s.valid
    ∧ (ensureTables s).err = s.err ∧ (ensureTables s).cause = s.cause := by
  rcases ensureTables_cases s with ⟨hr, h⟩ | ⟨-, -, h⟩ | ⟨hr, hok, -⟩
  · simp [h, hr]
  · simp [h]
  · simp [CanBuild, hr, hok] at hb

/-- Once they stand, the tables are those of `POLY` (R33, R102). -/
theorem ensureTables_tables {s : State} (htab : TablesLegal s) (hb : CanBuild s) :
    (ensureTables s).tables = buildTables s.params.poly := by
  rcases ensureTables_cases s with ⟨hr, h⟩ | ⟨-, -, h⟩ | ⟨hr, hok, -⟩
  · rw [h, htab hr]
  · simp [h]
  · simp [CanBuild, hr, hok] at hb

/-- Standing tables are not touched and others are built from `POLY` (R101, R102). -/
theorem ensureTables_tables_cases (s : State) :
    ((ensureTables s).tables = s.tables ∧ (ensureTables s).tblReady = s.tblReady)
    ∨ (s.tblReady = false ∧ (ensureTables s).tblReady = true
      ∧ (ensureTables s).tables = buildTables s.params.poly) := by
  rcases ensureTables_cases s with ⟨-, h⟩ | ⟨hr, -, h⟩ | ⟨-, -, h⟩
  · exact .inl (by simp [h])
  · exact .inr (by simp [h, hr])
  · exact .inl (by simp [h])

/-! ### The state at which a command works -/

/-- The block after steps 1, 2 and 5 of the launch of `w` (R169): `CMD` stored, flags cleared, tables ensured. -/
def readied (w : Word) (s : State) : State := ensureTables (openLaunch w s)

section Readied

variable (w : Word) (s : State)

@[simp] theorem readied_cmd : (readied w s).cmd = w :=
  ensureTables_field State.cmd (fun _ => rfl) (fun _ => rfl) (openLaunch w s)

@[simp] theorem readied_cmdWritten : (readied w s).cmdWritten = true :=
  ensureTables_field State.cmdWritten (fun _ => rfl) (fun _ => rfl) (openLaunch w s)

@[simp] theorem readied_args : (readied w s).args = s.args :=
  ensureTables_field State.args (fun _ => rfl) (fun _ => rfl) (openLaunch w s)

@[simp] theorem readied_argWritten : (readied w s).argWritten = s.argWritten :=
  ensureTables_field State.argWritten (fun _ => rfl) (fun _ => rfl) (openLaunch w s)

@[simp] theorem readied_data : (readied w s).data = s.data :=
  ensureTables_field State.data (fun _ => rfl) (fun _ => rfl) (openLaunch w s)

@[simp] theorem readied_params : (readied w s).params = s.params :=
  ensureTables_field State.params (fun _ => rfl) (fun _ => rfl) (openLaunch w s)

@[simp] theorem readied_tableBuildOk : (readied w s).tableBuildOk = s.tableBuildOk :=
  ensureTables_field State.tableBuildOk (fun _ => rfl) (fun _ => rfl) (openLaunch w s)

@[simp] theorem readied_pending : (readied w s).pending = s.pending :=
  ensureTables_field State.pending (fun _ => rfl) (fun _ => rfl) (openLaunch w s)

@[simp] theorem readied_reads : (readied w s).reads = s.reads :=
  ensureTables_field State.reads (fun _ => rfl) (fun _ => rfl) (openLaunch w s)

theorem readied_flags {s : State} (hb : CanBuild s) :
    (readied w s).tblReady = true ∧ (readied w s).fatal = s.fatal ∧ (readied w s).valid = false
    ∧ (readied w s).err = false ∧ (readied w s).cause = .none :=
  ensureTables_flags (s := openLaunch w s) hb

theorem readied_tables {s : State} (htab : TablesLegal s) (hb : CanBuild s) :
    (readied w s).tables = buildTables s.params.poly :=
  ensureTables_tables (s := openLaunch w s) htab hb

theorem readied_tables_cases :
    ((readied w s).tables = s.tables ∧ (readied w s).tblReady = s.tblReady)
    ∨ (s.tblReady = false ∧ (readied w s).tblReady = true
      ∧ (readied w s).tables = buildTables s.params.poly) :=
  ensureTables_tables_cases (openLaunch w s)

end Readied

/-! ### The value of a command -/

/-- The value a command leaves in `RESULT` once the tables stand (R169 step 6): none for TBL_BUILD, nor for COMPUTE
where `DATA` has a gap. -/
def commandResult (i : Instr) (s : State) : Option Word :=
  match i with
  | .compute => (Memory.readBytes s.data 0 (lengthValue s.args[1])).map (crc64 s.tables.single · s.args[0])
  | .combine => some (combineWith (mulXN s.params s.tables) s.args[0] s.args[1] s.args[2]
      (lengthValue s.args[3]) s.args[4] s.args[5] (lengthValue s.args[6]))
  | .mulxn => some (mulXN s.params s.tables s.args[0] (lengthValue s.args[1]))
  | .gf2mul => some (gf2mul s.params.poly s.args[0] s.args[1])
  | .tblSingle => some (lookup s.tables.single (byteOf s.args[0]))
  | .tblWide => some (wideLookup s.tables.wide (tapOf s.args[0]) (byteOf s.args[1]))
  | .tblBuild => none

/-- The end of a command with this value, if it has one. -/
def endCommand (i : Instr) (s : State) : Host.Outcome State Fault Refusal :=
  match commandResult i s with
  | some v => .next (flagResult v s)
  | none => if i = .tblBuild then .next s else .fault .dataOutOfRange

theorem endCommand_of_result {i : Instr} {s : State} {v : Word} (h : commandResult i s = some v) :
    endCommand i s = .next (flagResult v s) := by
  simp [endCommand, h]

theorem checkTblSingle_eq (s : State) : checkTblSingle s = operandCheck .tblSingle s := by
  by_cases h : s.args[0].toNat ≤ 255 <;> simp [checkTblSingle, operandCheck, byteValueLegal, h]

theorem checkTblWide_eq (s : State) : checkTblWide s = operandCheck .tblWide s := by
  by_cases h0 : s.args[0].toNat ≤ 7 <;> by_cases h1 : s.args[1].toNat ≤ 255 <;>
    simp [checkTblWide, operandCheck, byteValueLegal, tapIndexLegal, h0, h1]

theorem checkCombine_eq (s : State) : checkCombine s = operandCheck .combine s := by
  simp [checkCombine, operandCheck, lengthNegative]

theorem workCompute_eq (s : State) : workCompute s = endCommand .compute s := by
  rcases workCompute_cases s with ⟨bytes, hbytes, h⟩ | ⟨hbytes, h⟩ <;>
    simp [h, endCommand, commandResult, hbytes]

/-- Every command is the launch of its word with its operand check and its value (R169). -/
theorem exec_eq_launch (i : Instr) (s : State) :
    exec i s = launch (encode i) (operandCheck i) (endCommand i) s := by
  cases i with
  | compute => exact congrArg (launch _ _ · s) (funext workCompute_eq)
  | combine => exact congrArg (launch _ · _ s) (funext checkCombine_eq)
  | mulxn => rfl
  | gf2mul => rfl
  | tblSingle => exact congrArg (launch _ · _ s) (funext checkTblSingle_eq)
  | tblWide => exact congrArg (launch _ · _ s) (funext checkTblWide_eq)
  | tblBuild => rfl

/-- No operand check reads what the opening of a launch writes. -/
@[simp] theorem operandCheck_openLaunch (i : Instr) (w : Word) (s : State) :
    operandCheck i (openLaunch w s) = operandCheck i s := by
  cases i <;> rfl

/-! ### What a command looks at -/

section Congr

variable {i : Instr} {s s' : State}

/-- An operand check reads the command's own operands and `DATA_AVAIL` (R23, R169). -/
theorem operandCheck_congr (hargs : ∀ m ∈ operandRegs i, s.args[m] = s'.args[m])
    (hdata : s.data = s'.data) : operandCheck i s = operandCheck i s' := by
  cases i <;> simp_all [operandRegs, operandCheck]

/-- A command's value rests on its own operands, `DATA`, the tables and the parameters (R23). -/
theorem commandResult_congr (hargs : ∀ m ∈ operandRegs i, s.args[m] = s'.args[m])
    (hdata : s.data = s'.data) (htables : s.tables = s'.tables) (hparams : s.params = s'.params) :
    commandResult i s = commandResult i s' := by
  cases i <;> simp_all [operandRegs, commandResult]

end Congr

/-! ### The end of a launch, case by case -/

theorem exec_rejects {i : Instr} {s : State} {c : InvalidArg} (hf : s.fatal = false)
    (hc : operandCheck i s = some c) : exec i s = .next (raiseInvalid c (openLaunch (encode i) s)) := by
  rw [exec_eq_launch]
  exact launch_rejects hf (by simpa using hc)

theorem exec_dies {i : Instr} {s : State} (hf : s.fatal = false) (hc : operandCheck i s = none)
    (hr : s.tblReady = false) (hok : s.tableBuildOk = false) :
    exec i s = .next (raiseFatal (openLaunch (encode i) s)) := by
  rw [exec_eq_launch]
  exact launch_dies hf (by simpa using hc) hr hok

theorem exec_ends {i : Instr} {s : State} (hf : s.fatal = false) (hc : operandCheck i s = none)
    (hb : CanBuild s) : exec i s = endCommand i (readied (encode i) s) := by
  rw [exec_eq_launch]
  exact launch_works hf (by simpa using hc) hb

theorem exec_results {i : Instr} {s : State} {v : Word} (hf : s.fatal = false) (hc : operandCheck i s = none)
    (hb : CanBuild s) (hv : commandResult i (readied (encode i) s) = some v) :
    exec i s = .next (flagResult v (readied (encode i) s)) :=
  (exec_ends hf hc hb).trans (endCommand_of_result hv)

theorem exec_tblBuild_ends {s : State} (hf : s.fatal = false) (hb : CanBuild s) :
    exec .tblBuild s = .next (readied (encode .tblBuild) s) :=
  exec_ends hf rfl hb

/-- Everything a command can answer as a next state, each case with what it rests on (R160, R169). -/
inductive CommandEnd (i : Instr) (s : State) : State → Prop where
  | dead (hf : s.fatal = true) : CommandEnd i s s
  | rejected (hf : s.fatal = false) (c : InvalidArg) (hc : operandCheck i s = some c) :
      CommandEnd i s (raiseInvalid c (openLaunch (encode i) s))
  | died (hf : s.fatal = false) (hc : operandCheck i s = none) (hr : s.tblReady = false)
      (hok : s.tableBuildOk = false) : CommandEnd i s (raiseFatal (openLaunch (encode i) s))
  | built (hf : s.fatal = false) (hb : CanBuild s) (hi : i = .tblBuild) : CommandEnd i s (readied (encode i) s)
  | resulted (hf : s.fatal = false) (hc : operandCheck i s = none) (hb : CanBuild s) (v : Word)
      (hv : commandResult i (readied (encode i) s) = some v) :
      CommandEnd i s (flagResult v (readied (encode i) s))

theorem not_canBuild_iff (s : State) : ¬CanBuild s ↔ s.tblReady = false ∧ s.tableBuildOk = false := by
  simp [CanBuild]

theorem commandEnd_of_exec {i : Instr} {s t : State} (h : exec i s = .next t) : CommandEnd i s t := by
  cases hf : s.fatal with
  | true =>
    obtain rfl : s = t := by simpa [exec_dead i hf] using h
    exact .dead hf
  | false =>
    cases hc : operandCheck i s with
    | some c =>
      obtain rfl : _ = t := by simpa [exec_rejects hf hc] using h
      exact .rejected hf c hc
    | none =>
      by_cases hb : CanBuild s
      · rw [exec_ends hf hc hb, endCommand] at h
        cases hv : commandResult i (readied (encode i) s) with
        | some v =>
          obtain rfl : _ = t := by simpa [hv] using h
          exact .resulted hf hc hb v hv
        | none =>
          by_cases hi : i = .tblBuild
          · obtain rfl : readied (encode i) s = t := by simpa only [hv, if_pos hi, Host.Outcome.next.injEq] using h
            exact .built hf hb hi
          · simp [hv, hi] at h
      · obtain ⟨hr, hok⟩ := (not_canBuild_iff s).mp hb
        obtain rfl : _ = t := by simpa [exec_dies hf hc hr hok] using h
        exact .died hf hc hr hok

theorem exec_of_commandEnd {i : Instr} {s t : State} (h : CommandEnd i s t) : exec i s = .next t := by
  cases h with
  | dead hf => exact exec_dead i hf
  | rejected hf c hc => exact exec_rejects hf hc
  | died hf hc hr hok => exact exec_dies hf hc hr hok
  | built hf hb hi => subst hi; exact exec_tblBuild_ends hf hb
  | resulted hf hc hb v hv => exact exec_results hf hc hb hv

theorem exec_eq_next_iff {i : Instr} {s t : State} : exec i s = .next t ↔ CommandEnd i s t :=
  ⟨commandEnd_of_exec, exec_of_commandEnd⟩

end Sys2Proof.Proofs.Launch

/-! PROOFS. The step layer (10_state.md R22, 30_encoding.md R83): what a launch of any word and a transaction can do,
said once as `LaunchEnd` and `TransactEnd`; what every step keeps is derived from that. -/

namespace Sys2Proof.Proofs.Step

open Sys2Proof Sys2Proof.Machine Sys2Proof.Safety Sys2Proof.Proofs.Decoding Sys2Proof.Proofs.Exceptions
  Sys2Proof.Proofs.Launch

/-! ### The launch of any word -/

/-- Everything the launch of a word, legal or not, can do to the block, whatever the operands hold (R169). -/
inductive LaunchEnd (w : Word) (s : State) : State → Prop where
  | dead (hf : s.fatal = true) : LaunchEnd w s s
  | rejected (hf : s.fatal = false) (c : InvalidArg) : LaunchEnd w s (raiseInvalid c (openLaunch w s))
  | died (hf : s.fatal = false) (hr : s.tblReady = false) (hok : s.tableBuildOk = false) :
      LaunchEnd w s (raiseFatal (openLaunch w s))
  | built (hf : s.fatal = false) (hb : CanBuild s) : LaunchEnd w s (readied w s)
  | resulted (hf : s.fatal = false) (hb : CanBuild s) (v : Word) : LaunchEnd w s (flagResult v (readied w s))

theorem launchEnd_of_exec {i : Instr} {s t : State} (h : exec i s = .next t) : LaunchEnd (encode i) s t := by
  cases commandEnd_of_exec h with
  | dead hf => exact .dead hf
  | rejected hf c _ => exact .rejected hf c
  | died hf _ hr hok => exact .died hf hr hok
  | built hf hb _ => exact .built hf hb
  | resulted hf _ hb v _ => exact .resulted hf hb v

theorem launchEnd_launchIllegal (w : Word) (s : State) : LaunchEnd w s (launchIllegal w s) := by
  cases hf : s.fatal with
  | true =>
    rw [launchIllegal_dead w hf]
    exact .dead hf
  | false =>
    have hlive : launchIllegal w s = raiseInvalid .malformed (openLaunch w s) := by simp [launchIllegal, hf]
    rw [hlive]
    exact .rejected hf .malformed

theorem launchWord_of_decode {w : Word} {i : Instr} (h : decode w = .ok i) (s : State) :
    launchWord w s = exec i s := by
  simp [launchWord, h]

theorem launchWord_of_error {w : Word} {e : DecodeError} (h : decode w = .error e) (s : State) :
    launchWord w s = .next (launchIllegal w s) := by
  simp [launchWord, h]

theorem launchEnd_of_launchWord {w : Word} {s t : State} (h : launchWord w s = .next t) : LaunchEnd w s t := by
  cases hw : decode w with
  | ok i =>
    rw [(decode_eq_ok_iff w i).mp hw] at h ⊢
    exact launchEnd_of_exec (by rwa [launchWord_of_decode (decode_encode i)] at h)
  | error e =>
    obtain rfl : _ = t := by simpa [launchWord_of_error hw] using h
    exact launchEnd_launchIllegal w s

/-! ### The frame of a launch -/

theorem keepsInputs_refl (s : State) : KeepsInputs s s :=
  ⟨rfl, rfl, rfl, fun _ => rfl, rfl, rfl, rfl, rfl⟩

theorem keepsInputs_readied (w : Word) (s : State) : KeepsInputs s (readied w s) := by
  simp [KeepsInputs]

/-- A launch writes `CMD`, the flags, `CAUSE`, `RESULT` and the tables, and nothing else. -/
theorem keepsInputs_of_launchEnd {w : Word} {s t : State} (h : LaunchEnd w s t) : KeepsInputs s t := by
  cases h with
  | dead => exact keepsInputs_refl s
  | rejected | died => exact keepsInputs_refl s
  | built | resulted => exact keepsInputs_readied w s

theorem eq_of_launchEnd_dead {w : Word} {s t : State} (h : LaunchEnd w s t) (hf : s.fatal = true) : t = s := by
  cases h with
  | dead => rfl
  | rejected hlive | died hlive | built hlive | resulted hlive => simp [hf] at hlive

theorem cmd_of_launchEnd_live {w : Word} {s t : State} (h : LaunchEnd w s t) (hf : s.fatal = false) :
    t.cmd = w ∧ t.cmdWritten = true := by
  cases h with
  | dead hdead => simp [hf] at hdead
  | rejected | died => exact ⟨rfl, rfl⟩
  | built | resulted => simp

/-- A launch builds the tables from `POLY` or leaves them (R101). -/
theorem tables_of_launchEnd {w : Word} {s t : State} (h : LaunchEnd w s t) :
    (t.tables = s.tables ∧ t.tblReady = s.tblReady)
    ∨ (s.tblReady = false ∧ t.tblReady = true ∧ t.tables = buildTables s.params.poly) := by
  cases h with
  | dead | rejected | died => exact .inl ⟨rfl, rfl⟩
  | built | resulted => exact readied_tables_cases w s

/-- Settles O18: the frame of a launch, which a command is. -/
theorem launchFrame : Obligations.LaunchFrame := fun _ _ _ hexec =>
  have h := launchEnd_of_exec hexec
  ⟨keepsInputs_of_launchEnd h, eq_of_launchEnd_dead h, cmd_of_launchEnd_live h, tables_of_launchEnd h⟩

/-! ### A transaction -/

/-- Everything a transaction that answers a next state can do (R22, R34, R180). -/
inductive TransactEnd (s : State) : HostTxn → State → Prop where
  | launched (w : Word) (t : State) (h : LaunchEnd w s t) : TransactEnd s (.wr 0 w) t
  | ignored (reg : Nat) (v : Word) : TransactEnd s (.wr reg v) s
  | wroteArg (m : Nat) (v : Word) : TransactEnd s (.wr (m + 3) v) (writeArg m v s)
  | noted (reg : Nat) (v : Word) : TransactEnd s (.rd reg) (noteRead v s)
  | bound (bytes : List Byte) : TransactEnd s (.bind bytes) (bindData bytes s)
  | wasReset (ok : Bool) : TransactEnd s (.reset ok) (resetBlock ok s)

theorem transactEnd_of_transact {txn : HostTxn} {s t : State} (h : transact txn s = .next t) :
    TransactEnd s txn t := by
  cases txn with
  | wr reg v =>
    match reg with
    | 0 => exact .launched v t (launchEnd_of_launchWord h)
    | 1 | 2 =>
      obtain rfl : s = t := by simpa [transact, hostWrite] using h
      exact .ignored _ v
    | m + 3 =>
      obtain rfl : (if m < 7 then writeArg m v s else s) = t := by simpa [transact, hostWrite] using h
      split
      · exact .wroteArg m v
      · exact .ignored _ v
  | rd reg =>
    obtain ⟨v, rfl⟩ := eq_noteRead_of_hostRead h
    exact .noted reg v
  | bind bytes =>
    obtain rfl : bindData bytes s = t := by simpa [transact] using h
    exact .bound bytes
  | reset ok =>
    obtain rfl : resetBlock ok s = t := by simpa [transact] using h
    exact .wasReset ok

/-- A step idles, or it is the next transaction with that transaction consumed (R62, R196). -/
theorem step_cases {s t : State} (h : step s = .next t) :
    t = s ∨ ∃ txn rest, s.pending = txn :: rest ∧ TransactEnd (popPending rest s) txn t := by
  cases hp : s.pending with
  | nil => exact .inl (by simpa [step_idle hp] using h.symm)
  | cons txn rest => exact .inr ⟨txn, rest, rfl, transactEnd_of_transact ((step_pending hp).symm.trans h)⟩

/-! ### The invariant -/

theorem invariant_openLaunch (w : Word) {s : State} (hinv : Invariant s) (hf : s.fatal = false) :
    Invariant (openLaunch w s) := by
  obtain ⟨-, ⟨hready, -⟩, htables, hwf⟩ := hinv
  exact ⟨by simp [StatusLegal, hf], ⟨hready, by simp [hf]⟩, htables, hwf⟩

theorem invariant_raiseInvalid (c : InvalidArg) {s : State} (hinv : Invariant s) (hf : s.fatal = false) :
    Invariant (raiseInvalid c s) := by
  obtain ⟨-, ⟨hready, -⟩, htables, hwf⟩ := hinv
  exact ⟨by simp [StatusLegal, hf], ⟨hready, by simp [hf]⟩, htables, hwf⟩

theorem invariant_raiseFatal {s : State} (hinv : Invariant s) (hr : s.tblReady = false)
    (hok : s.tableBuildOk = false) : Invariant (raiseFatal s) := by
  obtain ⟨-, -, htables, hwf⟩ := hinv
  exact ⟨by simp [StatusLegal, hr], by simp [BuildLegal, hr, hok], htables, hwf⟩

theorem invariant_construct {s : State} (hinv : Invariant s) (hf : s.fatal = false) (hok : s.tableBuildOk = true) :
    Invariant (construct s) := by
  obtain ⟨⟨hve, -, hcause, herr, -⟩, -, -, hwf⟩ := hinv
  exact ⟨⟨hve, by simp [hf], hcause, herr, fun _ => rfl⟩, by simp [BuildLegal, hf, hok], fun _ => rfl, hwf⟩

theorem invariant_ensureTables {s : State} (hinv : Invariant s) (hf : s.fatal = false) :
    Invariant (ensureTables s) := by
  rcases ensureTables_cases s with ⟨-, h⟩ | ⟨-, hok, h⟩ | ⟨hr, hok, h⟩ <;> rw [h]
  · exact hinv
  · exact invariant_construct hinv hf hok
  · exact invariant_raiseFatal hinv hr hok

theorem invariant_readied (w : Word) {s : State} (hinv : Invariant s) (hf : s.fatal = false) :
    Invariant (readied w s) :=
  invariant_ensureTables (invariant_openLaunch w hinv hf) hf

theorem invariant_flagResult (v : Word) {s : State} (hinv : Invariant s) (hf : s.fatal = false)
    (herr : s.err = false) (hr : s.tblReady = true) : Invariant (flagResult v s) := by
  obtain ⟨⟨-, -, hcause, hc, -⟩, hbuild, htables, hwf⟩ := hinv
  exact ⟨⟨by simp [herr], by simp [hf], hcause, hc, fun _ => hr⟩, hbuild, htables, hwf⟩

theorem invariant_launchEnd {w : Word} {s t : State} (hinv : Invariant s) (h : LaunchEnd w s t) : Invariant t := by
  cases h with
  | dead => exact hinv
  | rejected hf c => exact invariant_raiseInvalid c (invariant_openLaunch w hinv hf) hf
  | died hf hr hok => exact invariant_raiseFatal (invariant_openLaunch w hinv hf) hr hok
  | built hf hb => exact invariant_readied w hinv hf
  | resulted hf hb v =>
    obtain ⟨hready, hfatal, -, herr, -⟩ := readied_flags w hb
    exact invariant_flagResult v (invariant_readied w hinv hf) (hfatal.trans hf) herr hready

/-- A block is born with the invariant: nothing of the state before counts. -/
theorem invariant_clearBlock (ok : Bool) (s : State) : Invariant (clearBlock ok s) :=
  ⟨by simp [StatusLegal], by simp [BuildLegal], by simp [TablesLegal], rfl⟩

theorem invariant_resetBlock (ok : Bool) (s : State) : Invariant (resetBlock ok s) := by
  have hborn := invariant_clearBlock ok s
  rcases resetBlock_cases ok s with ⟨-, h⟩ | ⟨-, hok, h⟩ | ⟨-, hok, h⟩ <;> rw [h]
  · exact hborn
  · exact invariant_construct hborn rfl hok
  · exact invariant_raiseFatal hborn rfl hok

theorem invariant_bindData (bytes : List Byte) {s : State} (hinv : Invariant s) : Invariant (bindData bytes s) := by
  obtain ⟨hstatus, hbuild, htables, -⟩ := hinv
  exact ⟨hstatus, hbuild, htables, bindData_wf bytes s⟩

theorem invariant_transactEnd {txn : HostTxn} {s t : State} (hinv : Invariant s) (h : TransactEnd s txn t) :
    Invariant t := by
  cases h with
  | launched w _ hend => exact invariant_launchEnd hinv hend
  | ignored | wroteArg | noted => exact hinv
  | bound bytes => exact invariant_bindData bytes hinv
  | wasReset ok => exact invariant_resetBlock ok s

/-- Settles O10: each kind of transaction keeps it, and consuming a transaction touches none of its fields. -/
theorem stepKeepsInvariant : Obligations.StepKeepsInvariant := by
  intro s t hinv hstep
  rcases step_cases hstep with rfl | ⟨txn, rest, -, hend⟩
  · exact hinv
  · exact invariant_transactEnd (s := popPending rest s) hinv hend

/-- Settles O9: the state after reset has no flag set, no tables and an empty buffer. -/
theorem resetStateHasInvariant : Obligations.ResetStateHasInvariant :=
  ⟨⟨by simp [StatusLegal, State.reset], by simp [BuildLegal, State.reset], by simp [TablesLegal, State.reset],
    reset_wf⟩, rfl, rfl, by decide⟩

/-! ### What every step keeps -/

theorem resetBlock_params (ok : Bool) (s : State) : (resetBlock ok s).params = s.params := by
  rcases resetBlock_cases ok s with ⟨-, h⟩ | ⟨-, -, h⟩ | ⟨-, -, h⟩ <;> simp [h]

theorem params_of_transactEnd {txn : HostTxn} {s t : State} (h : TransactEnd s txn t) : t.params = s.params := by
  cases h with
  | launched _ _ hend =>
    obtain ⟨-, -, -, -, hparams, -⟩ := keepsInputs_of_launchEnd hend
    exact hparams
  | ignored | wroteArg | noted | bound => rfl
  | wasReset ok => exact resetBlock_params ok s

theorem tableBuildOk_of_transactEnd {txn : HostTxn} {s t : State} (hreset : ∀ ok, txn ≠ .reset ok)
    (h : TransactEnd s txn t) : t.tableBuildOk = s.tableBuildOk := by
  cases h with
  | launched _ _ hend =>
    obtain ⟨-, -, -, -, -, hok, -⟩ := keepsInputs_of_launchEnd hend
    exact hok
  | ignored | wroteArg | noted | bound => rfl
  | wasReset ok => exact absurd rfl (hreset ok)

/-- Settles O12: a launch keeps its inputs, and of the other transactions only a reset draws again. -/
theorem parametersAreFixed : Obligations.ParametersAreFixed := by
  intro s t hstep
  rcases step_cases hstep with rfl | ⟨txn, rest, hp, hend⟩
  · exact ⟨rfl, fun _ => rfl⟩
  · exact ⟨params_of_transactEnd (s := popPending rest s) hend,
      fun hreset => tableBuildOk_of_transactEnd (s := popPending rest s) (fun ok h => hreset ok rest (h ▸ hp)) hend⟩

theorem data_of_transactEnd {txn : HostTxn} {s t : State} (hbind : ∀ bytes, txn ≠ .bind bytes)
    (hreset : ∀ ok, txn ≠ .reset ok) (h : TransactEnd s txn t) : t.data = s.data := by
  cases h with
  | launched _ _ hend =>
    obtain ⟨-, -, hdata, -⟩ := keepsInputs_of_launchEnd hend
    exact hdata
  | ignored | wroteArg | noted => rfl
  | bound bytes => exact absurd rfl (hbind bytes)
  | wasReset ok => exact absurd rfl (hreset ok)

/-- Settles O13: `DATA` itself is kept, so every byte and the length are. -/
theorem blockWritesNoMemory : Obligations.BlockWritesNoMemory := by
  intro s t hstep hbind hreset
  have hdata : t.data = s.data := by
    rcases step_cases hstep with rfl | ⟨txn, rest, hp, hend⟩
    · rfl
    · exact data_of_transactEnd (s := popPending rest s) (fun bytes h => hbind bytes rest (h ▸ hp))
        (fun ok h => hreset ok rest (h ▸ hp)) hend
  rw [hdata]
  exact ⟨fun _ => rfl, rfl⟩

theorem standing_of_launchEnd {w : Word} {s t : State} (hr : s.tblReady = true) (h : LaunchEnd w s t) :
    t.tblReady = true ∧ t.tables = s.tables := by
  rcases tables_of_launchEnd h with ⟨htables, hready⟩ | ⟨hnot, -⟩
  · exact ⟨hready.trans hr, htables⟩
  · simp [hr] at hnot

theorem standing_of_transactEnd {txn : HostTxn} {s t : State} (hreset : ∀ ok, txn ≠ .reset ok)
    (hr : s.tblReady = true) (h : TransactEnd s txn t) : t.tblReady = true ∧ t.tables = s.tables := by
  cases h with
  | launched _ _ hend => exact standing_of_launchEnd hr hend
  | ignored | wroteArg | noted | bound => exact ⟨hr, rfl⟩
  | wasReset ok => exact absurd rfl (hreset ok)

/-- Settles O11: a dead block keeps the record of its death, and a launch does not touch standing tables. -/
theorem onlyResetRevivesOrUnbuilds : Obligations.OnlyResetRevivesOrUnbuilds := by
  intro s t hreset hstep
  refine ⟨fun hf => ?_, fun hr => ?_⟩
  · obtain ⟨hfatal, hcmd, -, -, hcause⟩ := step_dead_keepsLaunchRecord hf hreset hstep
    exact ⟨hfatal.trans hf, hcause, hcmd⟩
  · rcases step_cases hstep with rfl | ⟨txn, rest, hp, hend⟩
    · exact ⟨hr, rfl⟩
    · exact standing_of_transactEnd (s := popPending rest s) (fun ok h => hreset ok rest (h ▸ hp)) hr hend

end Sys2Proof.Proofs.Step

/-! PROOFS. The form of `mulXN` (42_combiner.md R143): no length field reaches 2^63, so both forms give every command
the same value, and a block of the other form runs in step. -/

namespace Sys2Proof.Proofs.MulxnForm

open Sys2Proof Sys2Proof.Machine Sys2Proof.Safety Sys2Proof.Proofs.Combiner Sys2Proof.Proofs.Exceptions
  Sys2Proof.Proofs.Launch Sys2Proof.Proofs.Step

/-! ### `mulXN` over the tables of `POLY` -/

theorem lengthValue_lt (v : Word) : lengthValue v < 2 ^ 63 := BitVec.isLt _

/-- Both forms are `n` zero steps for every length a length field can hold (R143). -/
theorem mulXN_eq_mulXNIter (p : Params) (v : Word) {n : Nat} (hn : n < 2 ^ 63) :
    mulXN p (buildTables p.poly) v n = mulXNIter (buildSingle p.poly) v n := by
  cases h : p.mulxnImpl with
  | iterative => simp [mulXN, h, buildTables]
  | ladder => simpa [mulXN, h] using ladderEqualsIterated p.poly v n hn

/-- COMBINE's function uses `mulXN` at its two lengths only. -/
theorem combineWith_mulXN (p : Params) (iAB iA fA iB fB : Word) {lA lB : Nat} (hA : lA < 2 ^ 63) (hB : lB < 2 ^ 63) :
    combineWith (mulXN p (buildTables p.poly)) iAB iA fA lA iB fB lB
      = combineWith (mulXNIter (buildSingle p.poly)) iAB iA fA lA iB fB lB := by
  simp only [combineWith, mulXN_eq_mulXNIter p _ hA, mulXN_eq_mulXNIter p _ hB]

/-! ### A block of the other form -/

/-- The block with the other form of `mulXN`, if that is not its own already. -/
def withForm (impl : MulxnImpl) (s : State) : State :=
  { s with params := { s.params with mulxnImpl := impl } }

section WithForm

variable (impl : MulxnImpl)

theorem ensureTables_withForm (s : State) : ensureTables (withForm impl s) = withForm impl (ensureTables s) := by
  rcases ensureTables_cases s with ⟨hr, h⟩ | ⟨hr, hok, h⟩ | ⟨hr, hok, h⟩ <;> rw [h]
  · exact ensureTables_ready hr
  · exact ensureTables_builds hr hok
  · exact ensureTables_fails hr hok

theorem readied_withForm (w : Word) (s : State) : readied w (withForm impl s) = withForm impl (readied w s) :=
  ensureTables_withForm impl (openLaunch w s)

theorem resetBlock_withForm (ok : Bool) (s : State) :
    resetBlock ok (withForm impl s) = withForm impl (resetBlock ok s) := by
  rcases resetBlock_cases ok s with ⟨hlazy, h⟩ | ⟨heager, rfl, h⟩ | ⟨heager, rfl, h⟩ <;> rw [h]
  · exact resetBlock_lazy ok hlazy
  · exact resetBlock_eager heager
  · exact resetBlock_eager_fails heager

theorem operandCheck_withForm (i : Instr) (s : State) : operandCheck i (withForm impl s) = operandCheck i s := by
  cases i <;> rfl

/-- Over the tables of `POLY` no command's value shows the form (R8, R143). -/
theorem commandResult_withForm (i : Instr) {s : State} (htables : s.tables = buildTables s.params.poly) :
    commandResult i (withForm impl s) = commandResult i s := by
  have hother : (withForm impl s).tables = buildTables (withForm impl s).params.poly := htables
  cases i with
  | combine =>
    simp only [commandResult, hother, htables, combineWith_mulXN _ _ _ _ _ _ (lengthValue_lt _) (lengthValue_lt _)]
    rfl
  | mulxn =>
    simp only [commandResult, hother, htables, mulXN_eq_mulXNIter _ _ (lengthValue_lt _)]
    rfl
  | compute | gf2mul | tblSingle | tblWide | tblBuild => rfl

theorem commandEnd_withForm {i : Instr} {s t : State} (htab : TablesLegal s) (h : CommandEnd i s t) :
    CommandEnd i (withForm impl s) (withForm impl t) := by
  have hcheck := operandCheck_withForm impl i s
  cases h with
  | dead hf => exact .dead hf
  | rejected hf c hc => exact .rejected (s := withForm impl s) hf c (hcheck.trans hc)
  | died hf hc hr hok => exact .died (s := withForm impl s) hf (hcheck.trans hc) hr hok
  | built hf hb hi =>
    rw [← readied_withForm]
    exact .built hf hb hi
  | resulted hf hc hb v hv =>
    have hend : withForm impl (flagResult v (readied (encode i) s))
        = flagResult v (readied (encode i) (withForm impl s)) := by
      rw [readied_withForm]
      rfl
    rw [hend]
    refine .resulted (s := withForm impl s) hf (hcheck.trans hc) hb v ?_
    rw [readied_withForm, commandResult_withForm, hv]
    simpa using readied_tables (encode i) htab hb

theorem launchIllegal_withForm (w : Word) (s : State) :
    launchIllegal w (withForm impl s) = withForm impl (launchIllegal w s) := by
  cases hf : s.fatal with
  | true => rw [launchIllegal_dead w hf, launchIllegal_dead w (s := withForm impl s) hf]
  | false => simp [launchIllegal, withForm, hf, openLaunch, clearFlags, raiseInvalid, flagReject]

theorem launchWord_withForm {w : Word} {s t : State} (htab : TablesLegal s) (h : launchWord w s = .next t) :
    launchWord w (withForm impl s) = .next (withForm impl t) := by
  cases hw : decode w with
  | ok i =>
    rw [launchWord_of_decode hw, exec_eq_next_iff] at h ⊢
    exact commandEnd_withForm impl htab h
  | error e =>
    obtain rfl : launchIllegal w s = t := by simpa [launchWord_of_error hw] using h
    rw [launchWord_of_error hw, launchIllegal_withForm]

theorem readReg_withForm (s : State) (reg : Nat) : readReg (withForm impl s) reg = readReg s reg :=
  match reg with
  | 0 | 1 | 2 | _ + 3 => rfl

theorem hostWrite_withForm {reg : Nat} {v : Word} {s t : State} (htab : TablesLegal s)
    (h : hostWrite reg v s = .next t) : hostWrite reg v (withForm impl s) = .next (withForm impl t) := by
  match reg with
  | 0 => exact launchWord_withForm impl htab h
  | 1 | 2 =>
    obtain rfl : s = t := by simpa [hostWrite] using h
    rfl
  | m + 3 =>
    obtain rfl : (if m < 7 then writeArg m v s else s) = t := by simpa [hostWrite] using h
    by_cases hm : m < 7 <;> simp [hostWrite, hm, withForm, writeArg]

theorem hostRead_withForm {reg : Nat} {s t : State} (h : hostRead reg s = .next t) :
    hostRead reg (withForm impl s) = .next (withForm impl t) := by
  cases hv : readReg s reg with
  | none => simp [hostRead, hv] at h
  | some v =>
    obtain rfl : noteRead v s = t := by simpa [hostRead, hv] using h
    exact hostRead_of_readReg ((readReg_withForm impl s reg).trans hv)

theorem transact_withForm {txn : HostTxn} {s t : State} (htab : TablesLegal s) (h : transact txn s = .next t) :
    transact txn (withForm impl s) = .next (withForm impl t) := by
  cases txn with
  | wr reg v => exact hostWrite_withForm impl htab h
  | rd reg => exact hostRead_withForm impl h
  | bind bytes =>
    obtain rfl : bindData bytes s = t := by simpa [transact] using h
    rfl
  | reset ok =>
    obtain rfl : resetBlock ok s = t := by simpa [transact] using h
    exact congrArg Host.Outcome.next (resetBlock_withForm impl ok s)

end WithForm

/-- Settles O34: the two blocks run in step, transaction by transaction, since the standing tables are those of
`POLY`. -/
theorem mulxnImplDoesNotMatter : Obligations.MulxnImplDoesNotMatter := by
  rintro s t impl ⟨-, -, htab, -⟩ hstep
  change step (withForm impl s) = .next (withForm impl t)
  cases hp : s.pending with
  | nil =>
    obtain rfl : s = t := by simpa [step_idle hp] using hstep
    exact step_idle hp
  | cons txn rest =>
    have hother : (withForm impl s).pending = txn :: rest := hp
    rw [step_pending hp] at hstep
    exact (step_pending hother).trans (transact_withForm impl (s := popPending rest s) htab hstep)

end Sys2Proof.Proofs.MulxnForm

/-! PROOFS. Unspecified values (93_implementation_defined.md U1 to U3, U6): every operation keeps two blocks agreeing
on what the spec fixes, and a command whose operands are written reads nothing else. -/

namespace Sys2Proof.Proofs.Unspecified

open Sys2Proof Sys2Proof.Machine Sys2Proof.Safety Sys2Proof.Proofs.Exceptions Sys2Proof.Proofs.Launch
  Sys2Proof.Proofs.Step

/-! ### The operations keep the agreement -/

section Operations

variable {s s' : State}

theorem sameSpecified_popPending (rest : List HostTxn) (h : SameSpecified s s') :
    SameSpecified (popPending rest s) (popPending rest s') := by
  obtain ⟨hcw, hcmd, hready, hvalid, herr, hfatal, hcause, hresult, haw, hargs, htab, hdata, hparams, hok, -, hreads⟩ := h
  exact ⟨hcw, hcmd, hready, hvalid, herr, hfatal, hcause, hresult, haw, hargs, htab, hdata, hparams, hok, rfl, hreads⟩

/-- The free value the opening leaves in `RESULT` may differ, `VALID` being 0 (U3). -/
theorem sameSpecified_openLaunch (w : Word) (h : SameSpecified s s') :
    SameSpecified (openLaunch w s) (openLaunch w s') := by
  obtain ⟨-, -, hready, -, -, hfatal, -, -, haw, hargs, htab, hdata, hparams, hok, hpending, hreads⟩ := h
  exact ⟨rfl, fun _ => rfl, hready, rfl, rfl, hfatal, rfl, by simp, haw, hargs, htab, hdata, hparams, hok, hpending,
    hreads⟩

theorem sameSpecified_raiseInvalid (c : InvalidArg) (h : SameSpecified s s') :
    SameSpecified (raiseInvalid c s) (raiseInvalid c s') := by
  obtain ⟨hcw, hcmd, hready, -, -, hfatal, -, -, haw, hargs, htab, hdata, hparams, hok, hpending, hreads⟩ := h
  exact ⟨hcw, hcmd, hready, rfl, rfl, hfatal, rfl, by simp, haw, hargs, htab, hdata, hparams, hok, hpending, hreads⟩

theorem sameSpecified_raiseFatal (h : SameSpecified s s') : SameSpecified (raiseFatal s) (raiseFatal s') := by
  obtain ⟨hcw, hcmd, hready, -, -, -, -, -, haw, hargs, htab, hdata, hparams, hok, hpending, hreads⟩ := h
  exact ⟨hcw, hcmd, hready, rfl, rfl, rfl, rfl, by simp, haw, hargs, htab, hdata, hparams, hok, hpending, hreads⟩

/-- Tables that differed are equal once built, `POLY` being the same. -/
theorem sameSpecified_construct (h : SameSpecified s s') : SameSpecified (construct s) (construct s') := by
  obtain ⟨hcw, hcmd, -, hvalid, herr, hfatal, hcause, hresult, haw, hargs, -, hdata, hparams, hok, hpending, hreads⟩ := h
  have htables : (construct s).tables = (construct s').tables := by simp [hparams]
  exact ⟨hcw, hcmd, rfl, hvalid, herr, hfatal, hcause, hresult, haw, hargs, fun _ => htables, hdata, hparams, hok,
    hpending, hreads⟩

theorem sameSpecified_ensureTables (h : SameSpecified s s') : SameSpecified (ensureTables s) (ensureTables s') := by
  have hsame := h
  obtain ⟨-, -, hready, -, -, -, -, -, -, -, -, -, -, hok, -⟩ := hsame
  rcases ensureTables_cases s with ⟨hr, he⟩ | ⟨hr, hb, he⟩ | ⟨hr, hb, he⟩ <;> rw [he]
  · rw [ensureTables_ready (hready.symm.trans hr)]
    exact h
  · rw [ensureTables_builds (hready.symm.trans hr) (hok.symm.trans hb)]
    exact sameSpecified_construct h
  · rw [ensureTables_fails (hready.symm.trans hr) (hok.symm.trans hb)]
    exact sameSpecified_raiseFatal h

theorem sameSpecified_readied (w : Word) (h : SameSpecified s s') : SameSpecified (readied w s) (readied w s') :=
  sameSpecified_ensureTables (sameSpecified_openLaunch w h)

theorem sameSpecified_flagResult (v : Word) (h : SameSpecified s s') :
    SameSpecified (flagResult v s) (flagResult v s') := by
  obtain ⟨hcw, hcmd, hready, -, herr, hfatal, hcause, -, haw, hargs, htab, hdata, hparams, hok, hpending, hreads⟩ := h
  exact ⟨hcw, hcmd, hready, rfl, herr, hfatal, hcause, fun _ => rfl, haw, hargs, htab, hdata, hparams, hok, hpending,
    hreads⟩

theorem sameSpecified_writeArg (m : Nat) (v : Word) (h : SameSpecified s s') :
    SameSpecified (writeArg m v s) (writeArg m v s') := by
  obtain ⟨hcw, hcmd, hready, hvalid, herr, hfatal, hcause, hresult, haw, hargs, htab, hdata, hparams, hok, hpending,
    hreads⟩ := h
  have hargs' : ∀ j : Fin 7, (writeArg m v s).argWritten[j] = true →
      (writeArg m v s).args[j] = (writeArg m v s').args[j] := by
    intro j hj
    by_cases hm : m = j
    · simp [hm]
    · have hwritten : s.argWritten[j] = true := by simpa [Vector.getElem_setIfInBounds, hm] using hj
      simpa [Vector.getElem_setIfInBounds, hm] using hargs j hwritten
  exact ⟨hcw, hcmd, hready, hvalid, herr, hfatal, hcause, hresult, congrArg (·.setIfInBounds m true) haw, hargs', htab,
    hdata, hparams, hok, hpending, hreads⟩

theorem sameSpecified_noteRead (v : Word) (h : SameSpecified s s') :
    SameSpecified (noteRead v s) (noteRead v s') := by
  obtain ⟨hcw, hcmd, hready, hvalid, herr, hfatal, hcause, hresult, haw, hargs, htab, hdata, hparams, hok, hpending,
    hreads⟩ := h
  exact ⟨hcw, hcmd, hready, hvalid, herr, hfatal, hcause, hresult, haw, hargs, htab, hdata, hparams, hok, hpending,
    congrArg (· ++ [v]) hreads⟩

theorem sameSpecified_bindData (bytes : List Byte) (h : SameSpecified s s') :
    SameSpecified (bindData bytes s) (bindData bytes s') := by
  obtain ⟨hcw, hcmd, hready, hvalid, herr, hfatal, hcause, hresult, haw, hargs, htab, -, hparams, hok, hpending,
    hreads⟩ := h
  exact ⟨hcw, hcmd, hready, hvalid, herr, hfatal, hcause, hresult, haw, hargs, htab, rfl, hparams, hok, hpending,
    hreads⟩

theorem sameSpecified_clearBlock (ok : Bool) (h : SameSpecified s s') :
    SameSpecified (clearBlock ok s) (clearBlock ok s') := by
  obtain ⟨-, -, -, -, -, -, -, -, -, -, -, -, hparams, -, hpending, hreads⟩ := h
  exact ⟨rfl, fun _ => rfl, rfl, rfl, rfl, rfl, rfl, fun _ => rfl, rfl, fun _ _ => rfl, fun _ => rfl, rfl, hparams, rfl,
    hpending, hreads⟩

theorem sameSpecified_resetBlock (ok : Bool) (h : SameSpecified s s') :
    SameSpecified (resetBlock ok s) (resetBlock ok s') := by
  have hborn := sameSpecified_clearBlock ok h
  obtain ⟨-, -, -, -, -, -, -, -, -, -, -, -, hparams, -⟩ := h
  cases hpolicy : s.params.tableBuildAtReset with
  | false => rwa [resetBlock_lazy ok hpolicy, resetBlock_lazy ok (hparams ▸ hpolicy)]
  | true =>
    have heager : ∀ r : State, r.params.tableBuildAtReset = true →
        resetBlock ok r = ensureTables (clearBlock ok r) := fun _ hr => if_pos hr
    rw [heager s hpolicy, heager s' (hparams ▸ hpolicy)]
    exact sameSpecified_ensureTables hborn

/-! ### What a command and a read look at -/

theorem operands_eq {i : Instr} (h : SameSpecified s s') (hw : operandsWritten i s = true) :
    ∀ m ∈ operandRegs i, s.args[m] = s'.args[m] := by
  obtain ⟨-, -, -, -, -, -, -, -, -, hargs, -⟩ := h
  exact fun m hm => hargs m (List.all_eq_true.mp hw m hm)

/-- `STATUS` has no unspecified bit (U9). -/
theorem statusWord_congr (h : SameSpecified s s') : statusWord s = statusWord s' := by
  obtain ⟨-, -, hready, hvalid, herr, hfatal, hcause, -⟩ := h
  simp [statusWord, hready, hvalid, herr, hfatal, hcause]

theorem readReg_congr {reg : Nat} (h : SameSpecified s s') (hspec : readUnspecified reg s = none) :
    readReg s reg = readReg s' reg := by
  have hstatus := statusWord_congr h
  obtain ⟨-, hcmd, -, -, -, -, -, hresult, -, hargs, -⟩ := h
  match reg with
  | 0 =>
    have hwritten : s.cmdWritten = true := by simpa [readUnspecified] using hspec
    exact congrArg some (hcmd hwritten)
  | 1 => exact congrArg some hstatus
  | 2 =>
    have hvalid : s.valid = true := by simpa [readUnspecified] using hspec
    exact congrArg some (hresult hvalid)
  | m + 3 =>
    by_cases hm : m < 7
    · have hwritten : s.argWritten[m] = true := by
        cases hb : s.argWritten[m] with
        | true => rfl
        | false => simp [readUnspecified, hm, hb] at hspec
      simpa [readReg, hm] using hargs ⟨m, hm⟩ hwritten
    · simp [readReg, hm]

/-! ### The step -/

theorem commandEnd_sameSpecified {i : Instr} {t : State} (h : SameSpecified s s')
    (hw : s.fatal = false → operandsWritten i s = true) (hend : CommandEnd i s t) :
    ∃ t', CommandEnd i s' t' ∧ SameSpecified t t' := by
  have hopen := sameSpecified_openLaunch (encode i) h
  have hreadied := sameSpecified_readied (encode i) h
  have hsame := h
  obtain ⟨-, -, hready, -, -, hfatal, -, -, -, -, -, hdata, hparams, hok, -⟩ := hsame
  have hlive : s.fatal = false → s'.fatal = false := fun hf => hfatal.symm.trans hf
  have hcheck : s.fatal = false → operandCheck i s' = operandCheck i s := fun hf =>
    (operandCheck_congr (operands_eq h (hw hf)) hdata).symm
  have hbuild : CanBuild s → CanBuild s' := by simp only [CanBuild, hready, hok, imp_self]
  cases hend with
  | dead hf => exact ⟨s', .dead (hfatal.symm.trans hf), h⟩
  | rejected hf c hc => exact ⟨_, .rejected (hlive hf) c ((hcheck hf).trans hc), sameSpecified_raiseInvalid c hopen⟩
  | died hf hc hr hb =>
    exact ⟨_, .died (hlive hf) ((hcheck hf).trans hc) (hready.symm.trans hr) (hok.symm.trans hb),
      sameSpecified_raiseFatal hopen⟩
  | built hf hb hi => exact ⟨_, .built (hlive hf) (hbuild hb) hi, hreadied⟩
  | resulted hf hc hb v hv =>
    have hagree := hreadied
    obtain ⟨-, -, -, -, -, -, -, -, -, -, htables, -⟩ := hagree
    obtain ⟨hstand, -⟩ := readied_flags (encode i) hb
    have hvalue : commandResult i (readied (encode i) s') = some v := by
      rw [← hv]
      exact (commandResult_congr (by simpa using operands_eq h (hw hf)) (by simpa using hdata) (htables hstand)
        (by simpa using hparams)).symm
    exact ⟨_, .resulted (hlive hf) ((hcheck hf).trans hc) (hbuild hb) v hvalue, sameSpecified_flagResult v hreadied⟩

theorem launchIllegal_sameSpecified (w : Word) (h : SameSpecified s s') :
    SameSpecified (launchIllegal w s) (launchIllegal w s') := by
  have hopen := sameSpecified_openLaunch w h
  have hsame := h
  obtain ⟨-, -, -, -, -, hfatal, -⟩ := hsame
  cases hf : s.fatal with
  | true => rwa [launchIllegal_dead w hf, launchIllegal_dead w (hfatal.symm.trans hf)]
  | false =>
    have hlive : ∀ r : State, r.fatal = false → launchIllegal w r = raiseInvalid .malformed (openLaunch w r) :=
      fun r hr => by simp [launchIllegal, hr]
    rw [hlive s hf, hlive s' (hfatal.symm.trans hf)]
    exact sameSpecified_raiseInvalid _ hopen

theorem launchWord_sameSpecified {w : Word} {t : State} (h : SameSpecified s s')
    (hspec : launchUnspecified w s = none) (hlaunch : launchWord w s = .next t) :
    ∃ t', launchWord w s' = .next t' ∧ SameSpecified t t' := by
  cases hw : decode w with
  | ok i =>
    have hwritten : s.fatal = false → operandsWritten i s = true := by
      intro hf
      simpa [launchUnspecified, hf, hw] using hspec
    rw [launchWord_of_decode hw, exec_eq_next_iff] at hlaunch
    obtain ⟨t', hend, ht⟩ := commandEnd_sameSpecified h hwritten hlaunch
    exact ⟨t', (launchWord_of_decode hw s').trans (exec_of_commandEnd hend), ht⟩
  | error e =>
    obtain rfl : launchIllegal w s = t := by simpa [launchWord_of_error hw] using hlaunch
    exact ⟨_, launchWord_of_error hw s', launchIllegal_sameSpecified w h⟩

theorem hostWrite_sameSpecified {reg : Nat} {v : Word} {t : State} (h : SameSpecified s s')
    (hspec : txnUnspecified (.wr reg v) s = none) (hwrite : hostWrite reg v s = .next t) :
    ∃ t', hostWrite reg v s' = .next t' ∧ SameSpecified t t' := by
  match reg with
  | 0 => exact launchWord_sameSpecified h hspec hwrite
  | 1 | 2 =>
    obtain rfl : s = t := by simpa [hostWrite] using hwrite
    exact ⟨s', rfl, h⟩
  | m + 3 =>
    obtain rfl : (if m < 7 then writeArg m v s else s) = t := by simpa [hostWrite] using hwrite
    refine ⟨_, rfl, ?_⟩
    split
    · exact sameSpecified_writeArg m v h
    · exact h

theorem transact_sameSpecified {txn : HostTxn} {t : State} (h : SameSpecified s s')
    (hspec : txnUnspecified txn s = none) (htxn : transact txn s = .next t) :
    ∃ t', transact txn s' = .next t' ∧ SameSpecified t t' := by
  cases txn with
  | wr reg v => exact hostWrite_sameSpecified h hspec htxn
  | rd reg =>
    cases hv : readReg s reg with
    | none => simp [transact, hostRead, hv] at htxn
    | some v =>
      obtain rfl : noteRead v s = t := by simpa [transact, hostRead, hv] using htxn
      exact ⟨_, hostRead_of_readReg ((readReg_congr h hspec).symm.trans hv), sameSpecified_noteRead v h⟩
  | bind bytes =>
    obtain rfl : bindData bytes s = t := by simpa [transact] using htxn
    exact ⟨_, rfl, sameSpecified_bindData bytes h⟩
  | reset ok =>
    obtain rfl : resetBlock ok s = t := by simpa [transact] using htxn
    exact ⟨_, rfl, sameSpecified_resetBlock ok h⟩

end Operations

/-- A transaction rests on the same values whether it still waits or has just been taken. -/
theorem txnUnspecified_popPending (txn : HostTxn) (rest : List HostTxn) (s : State) :
    txnUnspecified txn (popPending rest s) = txnUnspecified txn s := by
  cases txn with
  | wr reg v => cases reg <;> rfl
  | rd reg => rfl
  | bind | reset => rfl

theorem nextUnspecified_of_pending {s : State} {txn : HostTxn} {rest : List HostTxn} (hp : s.pending = txn :: rest) :
    nextUnspecified s = txnUnspecified txn (popPending rest s) := by
  rw [txnUnspecified_popPending]
  simp [nextUnspecified, hp]

/-- Settles O32: a specified transaction looks at specified values only, and every operation keeps the agreement. -/
theorem unspecifiedValuesDoNotMatter : Obligations.UnspecifiedValuesDoNotMatter := by
  intro s s' t h hspec hstep
  have hsame := h
  obtain ⟨-, -, -, -, -, -, -, -, -, -, -, -, -, -, hpending, -⟩ := hsame
  cases hp : s.pending with
  | nil =>
    obtain rfl : s = t := by simpa [step_idle hp] using hstep
    exact ⟨s', step_idle (hpending.symm.trans hp), h⟩
  | cons txn rest =>
    rw [nextUnspecified_of_pending hp] at hspec
    rw [step_pending hp] at hstep
    rw [step_pending (hpending.symm.trans hp)]
    exact transact_sameSpecified (sameSpecified_popPending rest h) hspec hstep

end Sys2Proof.Proofs.Unspecified

/-! PROOFS. Tables, words and the combiner's numbers (40_table_set.md R94, 20_memory.md R53, 42_combiner.md R137, R141,
R149): consequences of the laws of `adv`, `gf2mul` and `combine`. -/

namespace Sys2Proof.Proofs.Numbers

open Sys2Proof Sys2Proof.Machine Sys2Proof.Proofs.TableSet Sys2Proof.Proofs.Engine Sys2Proof.Proofs.Combiner

/-! ### The entries of `wide` (R94, R96) -/

/-- The byte `b` stepped in from 0 leaves its entry of `single` (R97). -/
theorem byteStep_zero (single : Vector Word 256) (b : Byte) : byteStep single 0 b = lookup single b := by
  simp [byteStep]

theorem wideLookup_eq_stepBytes (single : Vector Word 256) (k : BitVec 3) (b : Byte) :
    wideLookup (buildWide single) k b = stepBytes single 0 (b :: List.replicate (24 + k.toNat) 0) := by
  rw [wideLookup_buildWide, adv_eq_stepBytes_replicate, stepBytes, byteStep_zero]

/-- Each tap below the last is followed by one more zero step (R94). -/
theorem wideLookup_succ (single : Vector Word 256) {k : BitVec 3} (hk : k ≠ 7) (b : Byte) :
    wideLookup (buildWide single) (k + 1) b = zeroStep single (wideLookup (buildWide single) k b) := by
  have hsteps : 24 + (k + 1).toNat = 24 + k.toNat + 1 := by bv_omega
  rw [wideLookup_buildWide, hsteps, adv, wideLookup_buildWide]

/-- Settles O37: the three forms are one number of zero steps after `single[b]`, counted in three ways. -/
theorem wideEntries : Obligations.WideEntries := fun _ b =>
  ⟨wideLookup_buildWide _ 0 b, fun _ hk => wideLookup_succ _ hk b, fun k => wideLookup_eq_stepBytes _ k b⟩

theorem wideLookup_zero (poly : Word) (k : BitVec 3) : wideLookup (buildWide (buildSingle poly)) k 0 = 0 := by
  have hentry : lookup (buildSingle poly) 0 = 0 := lookup_buildSingle_zero poly
  rw [wideLookup_buildWide, hentry, adv_zero]

theorem wideLookup_xor (poly : Word) (k : BitVec 3) (a b : Byte) :
    wideLookup (buildWide (buildSingle poly)) k (a ^^^ b)
      = wideLookup (buildWide (buildSingle poly)) k a ^^^ wideLookup (buildWide (buildSingle poly)) k b := by
  simp only [wideLookup_buildWide, lookup_buildSingle_xor, adv_xor]

/-- Settles O41: the lane is the engine's own law, and a tap is linear because `single` and `adv` are. -/
theorem laneLookupsAdvance32 : Obligations.LaneLookupsAdvance32 := fun poly u =>
  ⟨laneLookup_eq_adv poly u, fun k => ⟨wideLookup_zero poly k, wideLookup_xor poly k⟩⟩

/-! ### The bytes of a word (R53) -/

theorem bytePos_zero (w : Word) : bytePos w 0 = w.setWidth 8 := bytePos_eq_setWidth w 0

/-- The next byte position of a word is the same one of the word shifted down by a byte. -/
theorem bytePos_succ (w : Word) (j : Nat) : bytePos w (j + 1) = bytePos (w >>> 8) j := by
  rw [bytePos_eq_setWidth, bytePos_eq_setWidth, ← BitVec.shiftRight_add, Nat.mul_succ, Nat.add_comm 8]

/-- Up to eight bytes stand in their word in order, the first one lowest: each shift takes one out (R53). -/
theorem getElem?_eq_bytePos_wordAt {bytes : List Byte} (h : bytes.length ≤ 8) {j : Nat} (hj : j < bytes.length) :
    bytes[j]? = some (bytePos (wordAt bytes 0) j) := by
  induction bytes generalizing j with
  | nil => simp at hj
  | cons b bs ih =>
    have hbs : bs.length ≤ 7 := Nat.le_of_succ_le_succ h
    cases j with
    | zero => simp [bytePos_zero, setWidth_eight_wordAt]
    | succ j =>
      rw [bytePos_succ, wordAt_cons_ushiftRight b hbs, List.getElem?_cons_succ]
      exact ih (by omega) (Nat.lt_of_succ_lt_succ hj)

/-- Settles O40: the word at an address is the word of the eight bytes from there on. -/
theorem littleEndianWord : Obligations.LittleEndianWord := by
  intro data addr j haddr hj
  have hin : j < ((data.drop addr).take 8).length := by simp; omega
  calc data[addr + j]? = ((data.drop addr).take 8)[j]? := by simp [hj]
    _ = some (bytePos (wordAt data addr) j) := by
        rw [getElem?_eq_bytePos_wordAt (List.length_take_le 8 _) hin, wordAt_take_drop]

/-! ### The combiner's numbers (R137, R141, R149) -/

theorem ladderConst_eq_xpow (poly : Word) (k : Nat) : ladderConst poly k = xpow poly (8 * 2 ^ k) := by
  induction k with
  | zero => exact ladderConst_zero poly
  | succ k ih => rw [ladderConst, ih, ← xpow_add, Nat.pow_succ, ← Nat.two_mul, Nat.mul_left_comm, Nat.mul_comm 2]

/-- Settles O48: squaring doubles the exponent, and the first four powers are a single bit or the polynomial. -/
theorem ladderConstants : Obligations.LadderConstants := fun poly =>
  ⟨ladderConst_eq_xpow poly, rfl,
    (ladderConst_eq_xpow poly 1).trans (xpow_eq_twoPow poly (by decide)),
    (ladderConst_eq_xpow poly 2).trans (xpow_eq_twoPow poly (by decide)),
    (ladderConst_eq_xpow poly 3).trans (xpow_sixtyFour poly)⟩

/-- Settles O49: both sides are `8 * n` applications of `mulx`. -/
theorem mulXNIsProduct : Obligations.MulXNIsProduct := fun poly v n =>
  (mulXNIter_eq_mulxIter poly v n).trans (gf2mul_xpow poly v (8 * n)).symm

theorem mulXNIter_zero (single : Vector Word 256) (v : Word) : mulXNIter single v 0 = v := rfl

/-- Equal seeds leave no correction (R149). -/
theorem combineWith_same_seeds (poly iA fA iB fB : Word) (lA lB : Nat) :
    combineWith (mulXNIter (buildSingle poly)) iA iA fA lA iB fB lB
      = mulXNIter (buildSingle poly) (fA ^^^ iB) lB ^^^ fB := by
  have hnone : mulXNIter (buildSingle poly) 0#64 lA = 0#64 := adv_zero poly lA
  rw [combineWith_mulXNIter, BitVec.xor_self, hnone, BitVec.xor_zero]

/-- A mismatch of seeds over no bytes is XORed in unchanged (R149). -/
theorem combineWith_empty_A (poly iAB iA fA iB fB : Word) (lB : Nat) :
    combineWith (mulXNIter (buildSingle poly)) iAB iA fA 0 iB fB lB
      = mulXNIter (buildSingle poly) (fA ^^^ iA ^^^ iAB ^^^ iB) lB ^^^ fB := by
  rw [combineWith_mulXNIter, mulXNIter_zero, ← BitVec.xor_assoc]

/-- Settles O53: the six steps without their test, at a zero length or equal seeds. -/
theorem combineCorners : Obligations.CombineCorners := by
  intro poly iAB iA fA iB fB lA lB B
  refine ⟨?_, ?_, combineWith_same_seeds .., combineWith_empty_A .., ?_⟩
  · rw [combineWith_same_seeds, mulXNIter_zero, xor_cancel_right]
  · have hconcat := combineWith_crc64 poly [] B iAB iAB iB
    simpa [crc64, stepBytes] using hconcat
  · rw [combineWith_empty_A, mulXNIter_zero]

end Sys2Proof.Proofs.Numbers

/-! PROOFS. The commands (60_exceptions.md R163, R169): each statement about a command is one end of its launch, with
the operand check and the value worked out for that command. -/

namespace Sys2Proof.Proofs.Commands

open Sys2Proof Sys2Proof.Machine Sys2Proof.Safety Sys2Proof.Proofs.Encoding Sys2Proof.Proofs.TableSet
  Sys2Proof.Proofs.Combiner Sys2Proof.Proofs.Launch Sys2Proof.Proofs.Step Sys2Proof.Proofs.MulxnForm

/-! ### The three ends of a launch (R160) -/

theorem rejects {i : Instr} {s : State} {c : InvalidArg} (hf : s.fatal = false) (hc : operandCheck i s = some c) :
    ∃ t, exec i s = .next t ∧ Rejected (encode i) c s t :=
  ⟨_, exec_rejects hf hc, rejected_raiseInvalid_openLaunch (encode i) c hf⟩

theorem died_raiseFatal_openLaunch (w : Word) {s : State} (hr : s.tblReady = false) :
    Died w s (raiseFatal (openLaunch w s)) :=
  ⟨rfl, rfl, rfl, rfl, rfl, rfl, hr, keepsInputs_refl s⟩

theorem succeeded_flagResult (i : Instr) (v : Word) {s : State} (htab : TablesLegal s) (hf : s.fatal = false)
    (hb : CanBuild s) : Succeeded i v s (flagResult v (readied (encode i) s)) := by
  obtain ⟨hready, hfatal, -, herr, hcause⟩ := readied_flags (encode i) hb
  exact ⟨readied_cmd _ s, readied_cmdWritten _ s, rfl, rfl, herr, hfatal.trans hf, hcause, hready,
    readied_tables _ htab hb, keepsInputs_readied _ s⟩

theorem completes {i : Instr} {s : State} {v : Word} (htab : TablesLegal s) (hf : s.fatal = false) (hb : CanBuild s)
    (hc : operandCheck i s = none) (hv : commandResult i (readied (encode i) s) = some v) :
    ∃ t, exec i s = .next t ∧ Succeeded i v s t :=
  ⟨_, exec_results hf hc hb hv, succeeded_flagResult i v htab hf hb⟩

/-! ### Length fields (R35) -/

/-- Bit 63 is the sign of a length (R10, R35). -/
theorem getLsbD_last_iff_toInt_neg (v : Word) : v.getLsbD 63 = true ↔ v.toInt < 0 := by
  have hmsb : v.msb = v.getLsbD 63 := BitVec.msb_eq_getLsbD_last v
  rw [← hmsb, BitVec.msb_eq_toInt, decide_eq_true_iff]

theorem getLsbD_last_iff_le_toNat (v : Word) : v.getLsbD 63 = true ↔ 2 ^ 63 ≤ v.toNat := by
  have hmsb : v.msb = v.getLsbD 63 := BitVec.msb_eq_getLsbD_last v
  rw [← hmsb, BitVec.msb_eq_decide, decide_eq_true_iff]

theorem not_getLsbD_last {v : Word} (h : v.toNat < 2 ^ 63) : ¬v.getLsbD 63 = true := by
  rw [getLsbD_last_iff_le_toNat]
  exact Nat.not_le.mpr h

theorem lengthValue_eq_toNat {v : Word} (h : v.toNat < 2 ^ 63) : lengthValue v = v.toNat := by
  rw [lengthValue, BitVec.extractLsb'_toNat, Nat.shiftRight_zero, Nat.mod_eq_of_lt h]

/-- A length that is not negative is its own unsigned reading (R10). -/
theorem toNat_of_toInt_nonneg {v : Word} (h : 0 ≤ v.toInt) : v.toNat < 2 ^ 63 ∧ v.toInt = v.toNat := by
  have hlt : v.toNat < 2 ^ 63 := by
    rw [← Nat.not_le, ← getLsbD_last_iff_le_toNat, getLsbD_last_iff_toInt_neg]
    exact Int.not_lt.mpr h
  exact ⟨hlt, BitVec.toInt_eq_toNat_of_lt (by omega)⟩

/-! ### The launch of every command -/

theorem operandCheck_compute (s : State) :
    operandCheck .compute s = if s.args[1].getLsbD 63 then some .negativeLength
      else if s.data.length < lengthValue s.args[1] then some .bufferSize else none := rfl

/-- The causes a command's check can give are those of its row of R163. -/
theorem operandCheck_eq_some_cases {i : Instr} {s : State} {c : InvalidArg} (h : operandCheck i s = some c) :
    (c = .negativeLength ∧ (i = .compute ∨ i = .combine ∨ i = .mulxn))
    ∨ (c = .bufferSize ∧ i = .compute)
    ∨ (c = .malformed ∧ (i = .tblSingle ∨ i = .tblWide)) := by
  cases i with
  | compute =>
    rw [operandCheck_compute] at h
    split_ifs at h <;> simp_all
  | combine | mulxn | tblSingle | tblWide => simp_all [operandCheck]
  | gf2mul | tblBuild => simp [operandCheck] at h

/-- Settles O19: at a live block the cause of a reject is that of the operand check. -/
theorem whoRaisesWhat : Obligations.WhoRaisesWhat := by
  intro i s t c hf hexec hcause
  cases commandEnd_of_exec hexec with
  | dead hdead => simp [hf] at hdead
  | rejected _ c' hc =>
    obtain rfl : c' = c := by simpa using hcause
    exact operandCheck_eq_some_cases hc
  | died => simp at hcause
  | built _ hb | resulted _ _ hb =>
    obtain ⟨-, -, -, -, hnone⟩ := readied_flags (encode i) hb
    simp [hnone] at hcause

/-- A command that passes its check has a value: COMPUTE finds its bytes in the canonical buffer (R51). -/
theorem exists_commandResult {i : Instr} {s : State} (hwf : Memory.wf s.data = true) (hc : operandCheck i s = none)
    (hi : i ≠ .tblBuild) : ∃ v, commandResult i s = some v := by
  cases i with
  | compute =>
    have hlen : lengthValue s.args[1] ≤ Memory.avail s.data := by
      rw [operandCheck_compute] at hc
      split_ifs at hc with hneg hlong
      exact Nat.not_lt.mp hlong
    exact ⟨_, by rw [commandResult, readBytes_of_wf hwf hlen, Option.map_some]⟩
  | combine | mulxn | gf2mul | tblSingle | tblWide => exact ⟨_, rfl⟩
  | tblBuild => exact absurd rfl hi

@[simp] theorem operandCheck_readied (i : Instr) (w : Word) (s : State) :
    operandCheck i (readied w s) = operandCheck i s :=
  operandCheck_congr (by simp) (by simp)

theorem exists_commandResult_readied {i : Instr} {s : State} (hwf : Memory.wf s.data = true)
    (hc : operandCheck i s = none) (hi : i ≠ .tblBuild) : ∃ v, commandResult i (readied (encode i) s) = some v :=
  exists_commandResult (by simpa using hwf) (by simpa using hc) hi

/-- Settles O15: the operand check, `CanBuild` and the value decide between the three ends. -/
theorem launchSequence : Obligations.LaunchSequence := by
  rintro i s ⟨-, -, htab, hwf⟩ hf
  refine ⟨fun c => rejects hf, fun hc hb => ?died, fun hc hb hi => ?resulted⟩
  case died =>
    obtain ⟨hr, hok⟩ := (not_canBuild_iff s).mp hb
    exact ⟨_, exec_dies hf hc hr hok, died_raiseFatal_openLaunch (encode i) hr⟩
  case resulted =>
    obtain ⟨v, hv⟩ := exists_commandResult_readied hwf hc hi
    obtain ⟨t, ht⟩ := completes htab hf hb hc hv
    exact ⟨t, v, ht⟩

/-! ### Relaunch (R39, R171) -/

theorem commandResult_relaunch {i : Instr} {s : State} {v : Word} (hb : CanBuild s)
    (hv : commandResult i (readied (encode i) s) = some v) :
    commandResult i (readied (encode i) (flagResult v (readied (encode i) s))) = some v := by
  obtain ⟨hready, -⟩ := readied_flags (encode i) hb
  have hstanding : readied (encode i) (flagResult v (readied (encode i) s))
      = openLaunch (encode i) (flagResult v (readied (encode i) s)) := ensureTables_ready hready
  rw [hstanding, ← hv]
  exact commandResult_congr (fun _ _ => rfl) rfl rfl rfl

/-- Settles O20: no end of a launch changes what the next one looks at, but that the tables then stand. -/
theorem relaunchRepeats : Obligations.RelaunchRepeats := by
  intro i s t hexec
  cases commandEnd_of_exec hexec with
  | dead hf => exact ⟨s, hexec, rfl, rfl, rfl, rfl, rfl, fun _ => rfl⟩
  | rejected hf c hc =>
    have hagain : operandCheck i (raiseInvalid c (openLaunch (encode i) s)) = some c :=
      (operandCheck_congr (fun _ _ => rfl) rfl).trans hc
    exact ⟨_, exec_rejects hf hagain, rfl, rfl, rfl, rfl, rfl, fun h => by simp at h⟩
  | died hf hc hr hok =>
    exact ⟨_, exec_of_commandEnd (.dead rfl), rfl, rfl, rfl, rfl, rfl, fun _ => rfl⟩
  | built hf hb hi =>
    subst hi
    obtain ⟨hready, hfatal, hvalid, herr, hcause⟩ := readied_flags (encode .tblBuild) hb
    have hagain := exec_tblBuild_ends (hfatal.trans hf) (.inl hready)
    obtain ⟨hready', hfatal', hvalid', herr', hcause'⟩ :=
      readied_flags (encode .tblBuild) (s := readied (encode .tblBuild) s) (.inl hready)
    exact ⟨_, hagain, hvalid'.trans hvalid.symm, herr'.trans herr.symm, hfatal', hcause'.trans hcause.symm,
      hready'.trans hready.symm, fun h => by simp [hvalid] at h⟩
  | resulted hf hc hb v hv =>
    obtain ⟨hready, hfatal, -, herr, hcause⟩ := readied_flags (encode i) hb
    have hagain : operandCheck i (flagResult v (readied (encode i) s)) = none :=
      (operandCheck_congr (by simp) (by simp)).trans hc
    have hbuild : CanBuild (flagResult v (readied (encode i) s)) := .inl hready
    obtain ⟨hready', hfatal', -, herr', hcause'⟩ := readied_flags (encode i) hbuild
    exact ⟨_, exec_results (hfatal.trans hf) hagain hbuild (commandResult_relaunch hb hv), rfl, herr'.trans herr.symm,
      hfatal', hcause'.trans hcause.symm, hready'.trans hready.symm, fun _ => rfl⟩

/-! ### COMPUTE (R110 to R112) -/

/-- Settles O21: the bytes read are the first `n` of the canonical buffer. -/
theorem computeCompletes : Obligations.ComputeCompletes := by
  intro s htab hwf hf hb hlt hle
  have hlen := lengthValue_eq_toNat hlt
  have hc : operandCheck .compute s = none := by
    have hfits : ¬s.data.length < lengthValue s.args[1] := by rw [hlen]; exact Nat.not_lt.mpr hle
    rw [operandCheck_compute, if_neg (not_getLsbD_last hlt), if_neg hfits]
  refine completes htab hf hb hc ?_
  simp [commandResult, hlen, readBytes_of_wf hwf hle, readied_tables _ htab hb, buildTables]

/-- Settles O22: the checks in their order, the second where the first passes. -/
theorem computeRejects : Obligations.ComputeRejects := by
  intro s hf
  refine ⟨fun hneg => rejects (i := .compute) hf ?_, fun hnonneg hlong => rejects (i := .compute) hf ?_⟩
  · exact if_pos ((getLsbD_last_iff_toInt_neg _).mpr hneg)
  · obtain ⟨hlt, hint⟩ := toNat_of_toInt_nonneg hnonneg
    have hexceeds : s.data.length < lengthValue s.args[1] := by
      rw [lengthValue_eq_toNat hlt]
      rw [hint] at hlong
      exact_mod_cast hlong
    rw [operandCheck_compute, if_neg (not_getLsbD_last hlt), if_pos hexceeds]

/-- Settles O42: no byte is read, and the two complements cancel. -/
theorem emptyInputIdentity : Obligations.EmptyInputIdentity := by
  have hempty : ∀ (single : Vector Word 256) (s : Word), crc64 single [] s = s := fun _ _ =>
    Engine.complement_complement _
  refine ⟨hempty, fun s hf hb hzero => ?_⟩
  have hc : operandCheck .compute s = none := by simp [operandCheck, hzero]
  have hv : commandResult .compute (readied (encode .compute) s) = some s.args[0] := by
    simp [commandResult, hzero, lengthValue, Memory.readBytes, hempty]
  exact ⟨_, exec_results hf hc hb hv, rfl, rfl⟩

/-! ### MULXN and COMBINE (R140, R145) -/

/-- Settles O24: both forms of `mulXN` are that many zero steps. -/
theorem mulxnCompletes : Obligations.MulxnCompletes := by
  intro s htab hf hb hlt
  have hc : operandCheck .mulxn s = none := if_neg (not_getLsbD_last hlt)
  refine completes htab hf hb hc ?_
  simp [commandResult, readied_tables _ htab hb, lengthValue_eq_toNat hlt, mulXN_eq_mulXNIter _ _ hlt, mulXNIter]

/-- COMBINE with valid lengths answers the six steps over zero steps (R145, R146). -/
theorem combine_completes {s : State} (htab : TablesLegal s) (hf : s.fatal = false) (hb : CanBuild s)
    (hA : s.args[3].toNat < 2 ^ 63) (hB : s.args[6].toNat < 2 ^ 63) :
    ∃ t, exec .combine s = .next t ∧ Succeeded .combine
      (combineWith (mulXNIter (buildSingle s.params.poly)) s.args[0] s.args[1] s.args[2] s.args[3].toNat
        s.args[4] s.args[5] s.args[6].toNat) s t := by
  have hc : operandCheck .combine s = none :=
    if_neg (not_or.mpr ⟨not_getLsbD_last hA, not_getLsbD_last hB⟩)
  refine completes htab hf hb hc ?_
  simp [commandResult, readied_tables _ htab hb, lengthValue_eq_toNat hA, lengthValue_eq_toNat hB,
    combineWith_mulXN _ _ _ _ _ _ hA hB]

/-- Settles O23: step 2's test written as a correction that may be 0. -/
theorem combineCompletes : Obligations.CombineCompletes := by
  intro s htab hf hb hA hB
  have hcompletes := combine_completes htab hf hb hA hB
  by_cases hseeds : s.args[1] = s.args[0]
  · simpa [combineWith, hseeds, mulXNIter, allOnes64] using hcompletes
  · simpa [combineWith, hseeds, mulXNIter, allOnes64] using hcompletes

/-- Settles O35: the six steps on true CRCs and lengths are the concatenation's CRC (R148). -/
theorem combineCommandIsConcatenation : Obligations.CombineCommandIsConcatenation := by
  intro s A B htab hf hb hA hB hcrcA hlenA hcrcB hlenB
  obtain ⟨t, hexec, hsucceeded⟩ := combine_completes htab hf hb (hlenA ▸ hA) (hlenB ▸ hB)
  obtain ⟨-, -, hresult, hvalid, -, -, -, -, -, -, -, hdata, -⟩ := hsucceeded
  rw [hcrcA, hlenA, hcrcB, hlenB, combineWith_crc64] at hresult
  exact ⟨t, hexec, hvalid, hdata, hresult⟩

/-- Settles O25: bit 63 is the sign, and COMBINE's one check covers both lengths. -/
theorem negativeLengthRejects : Obligations.NegativeLengthRejects := by
  intro s hf
  refine ⟨fun hneg => rejects (i := .mulxn) hf ?_, fun hneg => rejects (i := .combine) hf (if_pos ?_)⟩
  · exact if_pos ((getLsbD_last_iff_toInt_neg _).mpr hneg)
  · exact hneg.imp (getLsbD_last_iff_toInt_neg _).mpr (getLsbD_last_iff_toInt_neg _).mpr

/-! ### GF2MUL (R133, R134) -/

/-- The loop of R133 as a sum over the exponents, the bits of `b` from bit `k - 1` down. -/
theorem gf2mulLoop_eq_foldl (poly b : Word) (k : Nat) (a r : Word) :
    gf2mulLoop poly b k a r
      = (List.range k).foldl (fun r i => if b.getLsbD (k - 1 - i) then r ^^^ mulxIter poly i a else r) r := by
  induction k generalizing a r with
  | zero => rfl
  | succ k ih =>
    have hbit : ∀ i, k - 1 - i = k - (i + 1) := fun i => by omega
    rw [gf2mulLoop, ih, List.range_succ_eq_map, List.foldl_cons, List.foldl_map]
    simp only [hbit, mulxIter, Nat.add_sub_cancel, Nat.sub_zero]

/-- Settles O26: no operand is illegal, and the loop is the sum over the coefficients of `ARG1`. -/
theorem gf2mulCompletes : Obligations.Gf2mulCompletes := by
  intro s htab hf hb
  refine completes htab hf hb rfl ?_
  simp only [commandResult, readied_params, readied_args]
  exact congrArg some (gf2mulLoop_eq_foldl s.params.poly s.args[1] 64 s.args[0] 0)

/-! ### TBL_SINGLE, TBL_WIDE and TBL_BUILD (R103 to R105) -/

/-- A legal byte value is its own low byte, so its entry is eight `mulx` of it (R75, R91). -/
theorem lookup_buildSingle_byteOf (poly : Word) {v : Word} (h : v.toNat ≤ 255) :
    lookup (buildSingle poly) (byteOf v) = mulxIter poly 8 v := by
  have hbyte : (byteOf v).setWidth 64 = v := by
    apply BitVec.eq_of_toNat_eq
    simp [byteOf]
    omega
  rw [lookup_buildSingle, singleEntry_toNat, hbyte, mulx8]

theorem toNat_byteOf {v : Word} (h : v.toNat ≤ 255) : (byteOf v).toNat = v.toNat := by
  simp [byteOf]
  omega

theorem toNat_tapOf {v : Word} (h : v.toNat ≤ 7) : (tapOf v).toNat = v.toNat := by
  simp [tapOf]
  omega

/-- Settles O27: a legal byte value is looked up as it stands. -/
theorem tblSingleCompletes : Obligations.TblSingleCompletes := by
  intro s htab hf hb hbyte
  have hc : operandCheck .tblSingle s = none := if_neg (Nat.not_lt.mpr hbyte)
  refine completes htab hf hb hc ?_
  simp only [commandResult, readied_args, readied_tables _ htab hb, buildTables, lookup_buildSingle_byteOf _ hbyte]

/-- The flat index of R78 finds the entry of the tap and the byte. -/
theorem wideFlat_getElem? (wide : Vector (Vector Word 256) 8) (k : BitVec 3) (b : Byte) :
    (wideFlat wide)[256 * k.toNat + b.toNat]? = some (wideLookup wide k b) := by
  have hflat : wideFlat wide = wide.flatten.toList := by
    simp [wideFlat, Vector.flatten]
    rfl
  have htap : (256 * k.toNat + b.toNat) / 256 = k.toNat := by omega
  have hbyte : (256 * k.toNat + b.toNat) % 256 = b.toNat := by omega
  have hin : 256 * k.toNat + b.toNat < 8 * 256 := by omega
  have hentry : wide.flatten[256 * k.toNat + b.toNat] = wideLookup wide k b := by
    rw [Vector.getElem_flatten hin]
    simp only [htap, hbyte]
    rfl
  rw [hflat, ← hentry]
  simp [hin]

/-- Settles O28: the entry is that of the operands as they stand, in value and in place. -/
theorem tblWideCompletes : Obligations.TblWideCompletes := by
  intro s htab hf hb htap hbyte
  have hc : operandCheck .tblWide s = none := if_neg (by omega)
  have hentry : wideLookup (buildTables s.params.poly).wide (tapOf s.args[0]) (byteOf s.args[1])
      = adv (buildSingle s.params.poly) (mulxIter s.params.poly 8 s.args[1]) (24 + s.args[0].toNat) := by
    rw [buildTables, wideLookup_buildWide, lookup_buildSingle_byteOf _ hbyte, toNat_tapOf htap]
  have hv : commandResult .tblWide (readied (encode .tblWide) s)
      = some (adv (buildSingle s.params.poly) (mulxIter s.params.poly 8 s.args[1]) (24 + s.args[0].toNat)) := by
    simp only [commandResult, readied_tables _ htab hb, readied_args, hentry]
  obtain ⟨t, hexec, hsucceeded⟩ := completes htab hf hb hc hv
  refine ⟨t, hexec, hsucceeded, ?_⟩
  obtain ⟨-, -, hresult, -, -, -, -, -, htables, -⟩ := hsucceeded
  rw [hresult, htables, ← hentry, ← wideFlat_getElem?, toNat_tapOf htap, toNat_byteOf hbyte]

/-- Settles O29: the check looks at the whole operand, before any bit is dropped. -/
theorem tableIndexRejects : Obligations.TableIndexRejects := fun _ hf =>
  ⟨fun h => rejects (i := .tblSingle) hf (if_pos h), fun h => rejects (i := .tblWide) hf (if_pos h)⟩

/-- Settles O30: TBL_BUILD ends at the readied block itself. -/
theorem tblBuildCompletes : Obligations.TblBuildCompletes := by
  intro s hf hb
  obtain ⟨hready, hfatal, hvalid, herr, hcause⟩ := readied_flags (encode .tblBuild) hb
  have hlive := hfatal.trans hf
  have hstatus : statusWord (readied (encode .tblBuild) s) = 0x0000000000000001 := by
    simp [statusWord, hready, hlive, hvalid, herr, hcause, causeCode]
  refine ⟨_, exec_tblBuild_ends hf hb, readied_cmd _ s, hstatus, hvalid, herr, hcause, hlive, fun hr => ?_, fun hr => ?_,
    keepsInputs_readied _ s⟩
  · rcases readied_tables_cases (encode .tblBuild) s with ⟨htables, -⟩ | ⟨hnot, -⟩
    · exact htables
    · simp [hr] at hnot
  · exact readied_tables _ (fun h => by simp [hr] at h) hb

/-! ### The death of a block (R102, R167) -/

theorem statusWord_of_died {w : Word} {s t : State} (h : Died w s t) : statusWord t = 0x0000000000001008 := by
  obtain ⟨-, -, hvalid, herr, hfatal, hcause, hready, -⟩ := h
  simp [statusWord, hvalid, herr, hfatal, hcause, hready, causeCode]

/-- Settles O31: the check comes before the construction, so a rejected command does not attempt it. -/
theorem buildFailureKills : Obligations.BuildFailureKills := by
  intro i s hf hr hok
  refine ⟨fun hc => ?_, fun c hc => ?_⟩
  · have hdied := died_raiseFatal_openLaunch (encode i) hr
    exact ⟨_, exec_dies hf hc hr hok, hdied, statusWord_of_died hdied⟩
  · obtain ⟨t, hexec, hrejected⟩ := rejects hf hc
    have hlive := hrejected
    obtain ⟨-, -, -, -, hfatal, -⟩ := hlive
    exact ⟨t, hexec, hrejected, hfatal⟩

end Sys2Proof.Proofs.Commands

/-! PROOFS. The transactions one by one (10_state.md R22 to R25, R34; 70_reset_and_hazards.md R182), and which steps
stop. -/

namespace Sys2Proof.Proofs.Transactions

open Sys2Proof Sys2Proof.Machine Sys2Proof.Safety Sys2Proof.Proofs.Decoding Sys2Proof.Proofs.Exceptions
  Sys2Proof.Proofs.Launch Sys2Proof.Proofs.Step Sys2Proof.Proofs.Commands

/-! ### A write to `CMD` (R24, R27) -/

theorem step_launches {s : State} {w : Word} {rest : List HostTxn} (hp : s.pending = .wr 0 w :: rest) :
    step s = launchWord w (popPending rest s) :=
  step_pending hp

theorem fetchedWord_encode (i : Instr) : fetchedWord 64 (encode i).toNat = encode i := by
  rw [fetchedWord, Nat.mod_eq_of_lt (encode i).isLt, BitVec.ofNat_toNat, BitVec.setWidth_eq]

theorem popPending_pushPending (txn : HostTxn) (s : State) : popPending s.pending (pushPending txn s) = s := rfl

/-- Settles O4: a write to `CMD` is the launch of its word, and placing an instruction is waiting to write it. -/
theorem stepRunsDecodedInstruction : Obligations.StepRunsDecodedInstruction := by
  refine ⟨fun s w rest i hp hw => ?_, fun s i => ?_, fun s => step_idle⟩
  · exact (step_launches hp).trans (launchWord_of_decode hw _)
  · have hplaced : (s.withFetchWord 64 (encode i).toNat).pending = .wr 0 (encode i) :: s.pending := by
      simp [State.withFetchWord, fetchedWord_encode]
    rw [step_launches hplaced, launchWord_of_decode (decode_encode i), State.withFetchWord, popPending_pushPending]

/-! ### Register access (R22) -/

theorem hostWrite_ignored {reg : Nat} (h : reg = 1 ∨ reg = 2 ∨ reg ≥ 10) (v : Word) (s : State) :
    hostWrite reg v s = .next s := by
  match reg with
  | 0 => omega
  | 1 | 2 => rfl
  | m + 3 =>
    have hm : ¬m < 7 := by omega
    simp [hostWrite, hm]

/-- There is no register at an index of 10 or more (R21). -/
theorem readReg_reserved {reg : Nat} (h : reg ≥ 10) (s : State) : readReg s reg = none := by
  match reg with
  | 0 | 1 | 2 => omega
  | m + 3 =>
    have hm : 7 ≤ m := by omega
    exact Vector.getElem?_eq_none hm

theorem readReg_arg (s : State) (m : Fin 7) : readReg s (3 + m) = some s.args[m] := by
  rw [Nat.add_comm]
  exact Vector.getElem?_eq_getElem m.isLt

theorem hostRead_reserved {reg : Nat} (h : reg ≥ 10) (s : State) :
    hostRead reg s = .refused (.reservedRegisterRead reg) := by
  simp [hostRead, readReg_reserved h]

/-- Settles O5: the clauses are the transactions on registers, and the last is the frame of a launch. -/
theorem registerAccessRules : Obligations.RegisterAccessRules := by
  refine ⟨fun s m v rest hp => ?writeArg, fun s reg v rest hp hreg => ?ignored, fun s reg rest hp hreg => ?read,
    fun s reg rest hp hreg => ?reserved, fun w s t hlaunch => ?launch⟩
  case writeArg =>
    refine ⟨_, (step_pending hp).trans (hostWrite_arg m v _), by simp, by simp, fun j hj => ?_, rfl⟩
    have hne : (m : Nat) ≠ j := fun h => hj (Fin.ext h.symm)
    simp [hne]
  case ignored => exact (step_pending hp).trans (hostWrite_ignored hreg v _)
  case read =>
    obtain ⟨v, hv⟩ := exists_readReg_eq_some s hreg
    refine ⟨v, (step_pending hp).trans (hostRead_of_readReg (s := popPending rest s) hv), ?_, ?_, ?_, fun m h => ?_⟩
    · rintro rfl
      exact (Option.some.inj hv).symm
    · rintro rfl
      exact (Option.some.inj hv).symm
    · rintro rfl
      exact (Option.some.inj hv).symm
    · rw [h, readReg_arg] at hv
      exact (Option.some.inj hv).symm
  case reserved => exact (step_pending hp).trans (hostRead_reserved hreg _)
  case launch =>
    have hend := launchEnd_of_launchWord hlaunch
    obtain ⟨hargs, hwritten, -⟩ := keepsInputs_of_launchEnd hend
    refine ⟨hargs, hwritten, ?_⟩
    cases hf : s.fatal with
    | true => exact .inl (congrArg State.cmd (eq_of_launchEnd_dead hend hf))
    | false => exact .inr (cmd_of_launchEnd_live hend hf).1

/-- Settles O6: the cells listed are the bytes from index 0 on. -/
theorem bindSetsTheBuffer : Obligations.BindSetsTheBuffer := fun s bytes rest hp =>
  ⟨bindData bytes (popPending rest s), step_pending hp, bindData_wf bytes _, cellsFrom_length 0 bytes,
    fun a => read_cellsFrom 0 a bytes (Nat.zero_le a), rfl⟩

/-! ### `STATUS` (R25, R161) -/

/-- `STATUS` above its four flags: `CAUSE` between two reserved fields (R25). -/
theorem statusWord_above_flags (s : State) {start : Nat} (h : 4 ≤ start) (len : Nat) :
    (statusWord s).extractLsb' start len = (0#48 ++ causeCode s.cause ++ 0#4).extractLsb' (start - 4) len := by
  obtain ⟨k, rfl⟩ := Nat.exists_eq_add_of_le' h
  rw [statusWord, BitVec.extractLsb'_append_eq_of_le (by omega), BitVec.extractLsb'_append_eq_of_le (by omega),
    BitVec.extractLsb'_append_eq_of_le (by omega), BitVec.extractLsb'_append_eq_of_le (by omega)]
  rfl

theorem statusWord_cause (s : State) : (statusWord s).extractLsb' 8 8 = causeCode s.cause := by
  rw [statusWord_above_flags s (by decide), BitVec.extractLsb'_append_eq_of_le (by decide)]
  exact BitVec.extractLsb'_append_eq_right

theorem statusWord_low_reserved (s : State) : (statusWord s).extractLsb' 4 4 = 0 := by
  rw [statusWord_above_flags s (by decide)]
  exact BitVec.extractLsb'_append_eq_right

theorem statusWord_high_reserved (s : State) : (statusWord s).extractLsb' 16 48 = 0 := by
  rw [statusWord_above_flags s (by decide), BitVec.extractLsb'_append_eq_of_le (by decide)]
  exact BitVec.extractLsb'_append_eq_left

theorem statusWord_flags (s : State) :
    (statusWord s).getLsbD 0 = s.tblReady ∧ (statusWord s).getLsbD 1 = s.valid
    ∧ (statusWord s).getLsbD 2 = s.err ∧ (statusWord s).getLsbD 3 = s.fatal := by
  simp only [statusWord, BitVec.getLsbD_append]
  simp
/-- Settles O7: each field read out of the concatenation. -/
theorem statusWordLayout : Obligations.StatusWordLayout := by
  intro s
  have hcause := statusWord_cause s
  obtain ⟨hready, hvalid, herr, hfatal⟩ := statusWord_flags s
  refine ⟨hready, hvalid, herr, hfatal, statusWord_low_reserved s, statusWord_high_reserved s, ?_, ?_, ?_, ?_, ?_⟩ <;>
    exact fun h => hcause.trans (congrArg causeCode h)

/-! ### Reset (R180, R182) -/

/-- Settles O8: the clauses true of every reset come from the cleared block, the rest from the three rows of R182. -/
theorem resetEffect : Obligations.ResetEffect := by
  intro s ok rest hp
  refine ⟨resetBlock ok (popPending rest s), step_pending hp, ?_⟩
  rcases resetBlock_cases ok (popPending rest s) with ⟨hlazy, h⟩ | ⟨heager, rfl, h⟩ | ⟨heager, rfl, h⟩
  · have hpolicy : s.params.tableBuildAtReset = false := hlazy
    simp [h, hpolicy, statusWord, causeCode]
  · have hpolicy : s.params.tableBuildAtReset = true := heager
    simp [h, hpolicy, statusWord, causeCode]
  · have hpolicy : s.params.tableBuildAtReset = true := heager
    simp [h, hpolicy, statusWord, causeCode]

/-! ### Which steps stop (R51, R160) -/

/-- Over a canonical buffer every command answers a next state (R51, R160). -/
theorem exec_answers (i : Instr) {s : State} (hwf : Memory.wf s.data = true) : ∃ t, exec i s = .next t := by
  cases hf : s.fatal with
  | true => exact ⟨s, exec_dead i hf⟩
  | false =>
    cases hc : operandCheck i s with
    | some c => exact ⟨_, exec_rejects hf hc⟩
    | none =>
      by_cases hb : CanBuild s
      · by_cases hi : i = .tblBuild
        · subst hi
          exact ⟨_, exec_tblBuild_ends hf hb⟩
        · obtain ⟨v, hv⟩ := exists_commandResult_readied hwf hc hi
          exact ⟨_, exec_results hf hc hb hv⟩
      · obtain ⟨hr, hok⟩ := (not_canBuild_iff s).mp hb
        exact ⟨_, exec_dies hf hc hr hok⟩

theorem launchWord_answers (w : Word) {s : State} (hwf : Memory.wf s.data = true) :
    ∃ t, launchWord w s = .next t := by
  cases hw : decode w with
  | ok i => simpa [launchWord_of_decode hw] using exec_answers i hwf
  | error e => exact ⟨_, launchWord_of_error hw s⟩

theorem hostWrite_answers (reg : Nat) (v : Word) {s : State} (hwf : Memory.wf s.data = true) :
    ∃ t, hostWrite reg v s = .next t := by
  match reg with
  | 0 => exact launchWord_answers v hwf
  | 1 | 2 => exact ⟨s, rfl⟩
  | m + 3 => exact ⟨_, rfl⟩

/-- Over a canonical buffer a transaction answers a next state, or it reads a reserved index. -/
theorem transact_answers (txn : HostTxn) {s : State} (hwf : Memory.wf s.data = true) :
    (∃ t, transact txn s = .next t)
    ∨ ∃ reg, txn = .rd reg ∧ reg ≥ 10 ∧ transact txn s = .refused (.reservedRegisterRead reg) := by
  cases txn with
  | wr reg v => exact .inl (hostWrite_answers reg v hwf)
  | rd reg =>
    rcases Nat.lt_or_ge reg 10 with h | h
    · obtain ⟨v, hv⟩ := exists_readReg_eq_some s h
      exact .inl ⟨_, hostRead_of_readReg hv⟩
    · exact .inr ⟨reg, rfl, h, hostRead_reserved h s⟩
  | bind bytes => exact .inl ⟨_, rfl⟩
  | reset ok => exact .inl ⟨_, rfl⟩

theorem step_answers {s : State} (hwf : Memory.wf s.data = true) :
    (∃ t, step s = .next t)
    ∨ ∃ reg rest, s.pending = .rd reg :: rest ∧ reg ≥ 10 ∧ step s = .refused (.reservedRegisterRead reg) := by
  cases hp : s.pending with
  | nil => exact .inl ⟨s, step_idle hp⟩
  | cons txn rest =>
    rw [step_pending hp]
    rcases transact_answers txn (s := popPending rest s) hwf with h | ⟨reg, rfl, hreg, h⟩
    · exact .inl h
    · exact .inr ⟨reg, rest, rfl, hreg, h⟩

/-- No command is refused, whatever the state. -/
theorem exec_ne_refused (i : Instr) (s : State) (r : Refusal) : exec i s ≠ .refused r := by
  rcases exec_cases i s with ⟨-, h⟩ | ⟨-, c, h⟩ | ⟨-, -, -, h⟩ | ⟨-, -, -, h⟩ | ⟨-, -, -, v, h⟩ | ⟨-, -, h⟩ <;>
    simp [h]

theorem hostWrite_ne_refused (reg : Nat) (v : Word) (s : State) (r : Refusal) : hostWrite reg v s ≠ .refused r := by
  match reg with
  | 0 =>
    change launchWord v s ≠ .refused r
    cases hw : decode v with
    | ok i => simpa [launchWord_of_decode hw] using exec_ne_refused i s r
    | error e => simp [launchWord_of_error hw]
  | 1 | 2 | m + 3 => simp [hostWrite]

theorem transact_refused {txn : HostTxn} {s : State} {r : Refusal} (h : transact txn s = .refused r) :
    ∃ reg, txn = .rd reg ∧ reg ≥ 10 ∧ r = .reservedRegisterRead reg := by
  cases txn with
  | wr reg v => exact absurd h (hostWrite_ne_refused reg v s r)
  | rd reg =>
    rcases Nat.lt_or_ge reg 10 with hreg | hreg
    · obtain ⟨v, hv⟩ := exists_readReg_eq_some s hreg
      simp [transact, hostRead_of_readReg hv] at h
    · refine ⟨reg, rfl, hreg, ?_⟩
      simpa [transact, hostRead_reserved hreg] using h.symm
  | bind | reset => simp [transact] at h

/-- Settles O14: only COMPUTE over a buffer with a gap faults, and only a read is ever refused. -/
theorem stepStopsOnlyOnReservedRead : Obligations.StepStopsOnlyOnReservedRead := by
  refine ⟨fun s r hinv hfault => ?_, fun s r hrefused => ?_⟩
  · obtain ⟨-, -, -, hwf⟩ := hinv
    rcases step_answers hwf with ⟨t, h⟩ | ⟨reg, rest, -, -, h⟩ <;> simp [h] at hfault
  · cases hp : s.pending with
    | nil => simp [step_idle hp] at hrefused
    | cons txn rest =>
      rw [step_pending hp] at hrefused
      obtain ⟨reg, rfl, hreg, hr⟩ := transact_refused hrefused
      exact ⟨reg, rest, rfl, hreg, hr⟩

theorem readUnspecified_reserved {reg : Nat} (h : reg ≥ 10) (s : State) :
    readUnspecified reg s = some (.reservedIndex reg) := by
  match reg with
  | 0 | 1 | 2 => omega
  | m + 3 =>
    have hm : ¬m < 7 := by omega
    simp [readUnspecified, hm]

/-- Settles O33: the one transaction the machine itself refuses is among the unspecified ones. -/
theorem specifiedTransactionsComplete : Obligations.SpecifiedTransactionsComplete := by
  rintro s ⟨-, -, -, hwf⟩
  refine ⟨fun hspec => ?_, fun u hu => by simp [strictStep, hu]⟩
  rcases step_answers hwf with ⟨t, h⟩ | ⟨reg, rest, hp, hreg, -⟩
  · exact ⟨t, h, by simp [strictStep, hspec, h]⟩
  · have hreserved := readUnspecified_reserved hreg s
    simp [nextUnspecified, hp, txnUnspecified, hreserved] at hspec

end Sys2Proof.Proofs.Transactions
